-- ==== Sys2Proof/Word.lean ====
section
/-! DEFINITION. The word types of the block (00_scope.md R10, R11): bytes, 16-bit words, and a host access as data. -/

namespace Sys2Proof

/-- A byte: 8 bits (00_scope.md R11). -/
abbrev Byte := BitVec 8

/-- A word: 16 bits, the width of every host-visible register and of a host address (00_scope.md R10). -/
abbrev Word := BitVec 16

/-- A host access as its request gives it (30_encoding.md R150): a read of an address, or a write of data to it. -/
inductive Access where
  | rd (addr : Word)
  | wr (addr wdata : Word)
  deriving DecidableEq, Repr

end Sys2Proof
end

