-- ==== Sys2Proof/Config.lean ====
section
/-! DEFINITION. What an implementation fixes: the parameters of 00_scope.md R8, each a named constant, and the two
things the spec leaves open, as constants without a body: the power-on bytes of the RAMs and TELE_LAYOUT. -/

namespace Sys2Proof

/-- The three internal RAMs (10_state.md R70). -/
inductive Ram where
  | img | scr | tel
  deriving DecidableEq, Repr

/-- Raw samples per VoSPI line (R8). -/
@[simp] def Config.rawW : Nat := 80
/-- Raw lines per frame pass, numbered 0..59 (R8). -/
@[simp] def Config.rawH : Nat := 60
/-- Bytes per VoSPI packet (R8). -/
@[simp] def Config.pktBytes : Nat := 164
/-- Header bytes, 2 of ID and 2 of CRC (R8). -/
@[simp] def Config.hdrBytes : Nat := 4
/-- Payload bytes (R8). -/
@[simp] def Config.payBytes : Nat := 160
/-- 16-bit words per packet (R8). -/
@[simp] def Config.pktWords : Nat := 82
/-- Buffer alignment and row-pitch granule, bytes (R8). -/
@[simp] def Config.align : Nat := 16
/-- Scratch slot stride: 164 rounded up to 16 (R8). -/
@[simp] def Config.slotBytes : Nat := 176
/-- Telemetry sub-packets per frame (R8). -/
@[simp] def Config.teleRows : Nat := 3
/-- Raw-line position of telemetry, header placement (R8). -/
@[simp] def Config.tposHeader : Nat := 0
/-- Raw-line position of telemetry, footer placement (R8). -/
@[simp] def Config.tposFooter : Nat := 60
/-- Header probes per resynchronization episode (R8). -/
@[simp] def Config.probeLimit : Nat := 120
/-- Frame skips that abort a capture (R8). -/
@[simp] def Config.skipLimit : Nat := 5
/-- Sync-pulse hold time in milliseconds (R8): the transport's; no step reads it (70_reset_and_hazards.md R456). -/
@[simp] def Config.tSyncMs : Nat := 185
/-- Header byte 0 bits [7:4] of a discard packet (R8; 90_conflicts.md C1). -/
@[simp] def Config.discardNibble : BitVec 4 := 0xF
/-- Telemetry buffer byte 0 that means "not yet populated" (R8). -/
@[simp] def Config.teleSentinel : Byte := 0x0F
/-- Extra divisor, 14-bit to 8-bit rescale (R8). -/
@[simp] def Config.agc8Div : Nat := 64
/-- Clamp ceiling, 16-bit-per-pixel output (R8). -/
@[simp] def Config.max16 : Nat := 0x3FFF
/-- Clamp ceiling, 8-bit-per-pixel output (R8). -/
@[simp] def Config.max8 : Nat := 0xFF
/-- Image RAM bytes (R8, 10_state.md R70). -/
@[simp] def Config.imgRamBytes : Nat := 9600
/-- Scratch RAM bytes: four slots of 176 (R8, 10_state.md R70). -/
@[simp] def Config.scrRamBytes : Nat := 704
/-- Telemetry RAM bytes (R8, 10_state.md R70). -/
@[simp] def Config.telRamBytes : Nat := 164

/-- FREE VALUE (10_state.md R72, log 3): the byte a RAM holds at an offset since the last reset, before the engine
writes it; the second argument counts the block resets, so a later reset leaves other unknown bytes
(70_reset_and_hazards.md R440). No body: nothing can be proved about it. -/
opaque Config.powerOn : Ram → Nat → Nat → Byte

/-- The order of the two words of a 32-bit telemetry field (45_telemetry_decoder.md R361, R364). -/
inductive Order32 where
  | lswFirst | mswFirst
  deriving DecidableEq, Repr, Inhabited

/-- TELE_LAYOUT (45_telemetry_decoder.md R364). A word member counts from buffer word 2, the first payload word, and
its bound keeps the whole field inside words 2..81, so every value of this type is a legal layout (log 5). -/
structure TeleLayout where
  rev : Fin 80
  revMajorHi : Bool
  order32 : Order32
  uptime : Fin 79
  status : Fin 79
  ffcDesired : Fin 32
  ffcState : Fin 31
  agc : Fin 32
  shutdown : Fin 32
  serial : Fin 73
  swrev : Fin 77
  frameCnt : Fin 79
  mean : Fin 80
  fpa : Fin 80
  hous : Fin 80
  fpaFfc : Fin 80
  housFfc : Fin 80
  roi : Fin 77
  clipHi : Fin 80
  clipLo : Fin 80
  log2Ffc : Fin 80
  deriving DecidableEq, Repr, Inhabited

/-- FREE VALUE (92_eei_decisions.md D28, log 5): the layout of this block, any legal one. No body. -/
opaque Config.teleLayout : TeleLayout

end Sys2Proof
end

