-- ==== Sys2Proof/Syntax.lean ====
section
/-! DEFINITION. The block's instructions: one constructor per row of spec/opcode_table.json, in the table's order
(30_encoding.md R155). -/

namespace Sys2Proof

/-- The block's operations: a header the engine reads, an engine step, or a host transaction. -/
inductive Instr where
  -- Header classes, format vospi_header: the 32-bit header H (30_encoding.md R141, R147).
  | hdrDiscard (h : BitVec 32)
  | hdrTelemetry (h : BitVec 32)
  | hdrImage (h : BitVec 32)
  | hdrNewframe (h : BitVec 32)
  | hdrOutOfSync (h : BitVec 32)
  -- Engine steps, format engine_step (42_synchronizer.md R260).
  | stepPreflight
  | stepSync
  | stepHeaderSyncing
  | stepHeaderStreaming
  | stepPayload
  | stepProbe
  | stepExhaust
  -- Control reads (41_host_interface.md R201 to R229).
  | rdCtrl
  | rdMode
  | rdPreflight
  | rdStatus
  | rdEvents
  | rdIrqEn
  | rdSkipCount
  | rdProbeCount
  | rdLine
  | rdOutRow
  | rdTeleCount
  | rdLastHdrId
  | rdLastHdrCrc
  | rdBuserrCause
  | rdBuserrAddr
  | rdGeomW
  | rdGeomH
  | rdGeomBpp
  | rdGeomPitch
  | rdGeomTotal
  | rdGeomLpb
  -- Control writes; d is wdata (41_host_interface.md R200, R203, R205, R209, R211).
  | wrCtrl (d : Word)
  | wrMode (d : Word)
  | wrPreflight (d : Word)
  | wrEvents (d : Word)
  | wrIrqEn (d : Word)
  -- Writes of read-only registers (41_host_interface.md R230).
  | wrStatusRo (d : Word)
  | wrSkipCountRo (d : Word)
  | wrProbeCountRo (d : Word)
  | wrLineRo (d : Word)
  | wrOutRowRo (d : Word)
  | wrTeleCountRo (d : Word)
  | wrLastHdrIdRo (d : Word)
  | wrLastHdrCrcRo (d : Word)
  | wrBuserrCauseRo (d : Word)
  | wrBuserrAddrRo (d : Word)
  | wrGeomWRo (d : Word)
  | wrGeomHRo (d : Word)
  | wrGeomBppRo (d : Word)
  | wrGeomPitchRo (d : Word)
  | wrGeomTotalRo (d : Word)
  | wrGeomLpbRo (d : Word)
  -- The IMG and TRAW windows; a is the address (41_host_interface.md R221, R222, R231).
  | rdImg (a : Word)
  | wrImgRo (a d : Word)
  | rdTraw (a : Word)
  | wrTrawRo (a d : Word)
  -- Reads of decoded telemetry registers (41_host_interface.md R223; 45_telemetry_decoder.md R365 to R395).
  | rdTRevMajor
  | rdTRevMinor
  | rdTUptimeLo
  | rdTUptimeHi
  | rdTFlags
  | rdTSerial0
  | rdTSerial1
  | rdTSerial2
  | rdTSerial3
  | rdTSerial4
  | rdTSerial5
  | rdTSerial6
  | rdTSerial7
  | rdTSwrev0
  | rdTSwrev1
  | rdTSwrev2
  | rdTSwrev3
  | rdTFramecntLo
  | rdTFramecntHi
  | rdTFrameMean
  | rdTFpaTemp
  | rdTFpaTempFfc
  | rdTHousTemp
  | rdTHousTempFfc
  | rdTRoiTop
  | rdTRoiLeft
  | rdTRoiBottom
  | rdTRoiRight
  | rdTClipHi
  | rdTClipLo
  | rdTLog2Ffc
  -- A write of a decoded telemetry register, and the two kinds of access that always raise (R231 to R233).
  | wrTfieldRo (a d : Word)
  | accUnmapped (x : Access)
  | accMisaligned (x : Access)
  deriving DecidableEq, Repr

end Sys2Proof
end

