-- ==== Sys2Proof/WellFormed.lean ====
section
/-! DEFINITION. Which instructions are well formed: the addresses of the host-bus rows and the conditions of the
header rows of spec/opcode_table.json. -/

namespace Sys2Proof

/-- What the class of a header depends on besides the header (30_encoding.md R147): whether the telemetry window is
open, the next expected raw line, and whether the header is read as a probe. -/
structure HeaderContext where
  window : Bool
  line : BitVec 6
  probing : Bool
  deriving DecidableEq, Repr

/-- An even address from `lo` to `hi`, both included. -/
def evenWithin (lo hi a : Nat) : Bool := decide (a % 2 = 0) && decide (lo ≤ a) && decide (a ≤ hi)

/-- The unmapped even addresses (10_state.md R62). -/
def unmappedAddr (a : Nat) : Bool :=
  evenWithin 0x002A 0x00FE a || evenWithin 0x013E 0x01FE a || evenWithin 0x02A4 0x3FFE a ||
    evenWithin 0x6580 0xFFFE a

/-- The address of an access. -/
def Access.addr : Access → Word
  | .rd a => a
  | .wr a _ => a

/-- Header byte 0 bits [7:4] are 0xF (30_encoding.md R145). -/
def markedDiscard (h : BitVec 32) : Bool := decide (h.toNat / 0x10000000 = 0xF)

/-- Header byte 1, the line number (30_encoding.md R146). -/
def lineNumber (h : BitVec 32) : Nat := h.toNat / 0x10000 % 0x100

/-- The instruction's operands are ones its row of spec/opcode_table.json admits; for a header row, its condition
holds in the context (30_encoding.md R147). -/
def wellFormed (c : HeaderContext) (i : Instr) : Bool :=
  match i with
  | .hdrDiscard h => markedDiscard h
  | .hdrTelemetry h => !markedDiscard h && c.window
  | .hdrImage h =>
    !markedDiscard h && !c.window && decide (c.line.toNat < 60) && decide (lineNumber h = c.line.toNat)
  | .hdrNewframe h =>
    !markedDiscard h && !c.window && !(decide (c.line.toNat < 60) && decide (lineNumber h = c.line.toNat)) &&
      c.probing && decide (lineNumber h = 0)
  | .hdrOutOfSync h =>
    !markedDiscard h && !c.window && !(decide (c.line.toNat < 60) && decide (lineNumber h = c.line.toNat)) &&
      !(c.probing && decide (lineNumber h = 0))
  | .rdImg a => evenWithin 0x4000 0x657E a.toNat
  | .wrImgRo a _ => evenWithin 0x4000 0x657E a.toNat
  | .rdTraw a => evenWithin 0x0200 0x02A2 a.toNat
  | .wrTrawRo a _ => evenWithin 0x0200 0x02A2 a.toNat
  | .wrTfieldRo a _ => evenWithin 0x0100 0x013C a.toNat
  | .accUnmapped x => unmappedAddr x.addr.toNat
  | .accMisaligned x => decide (x.addr.toNat % 2 = 1)
  | .wrCtrl _ | .wrMode _ | .wrPreflight _ | .wrEvents _ | .wrIrqEn _
  | .wrStatusRo _ | .wrSkipCountRo _ | .wrProbeCountRo _ | .wrLineRo _ | .wrOutRowRo _
  | .wrTeleCountRo _ | .wrLastHdrIdRo _ | .wrLastHdrCrcRo _ | .wrBuserrCauseRo _ | .wrBuserrAddrRo _
  | .wrGeomWRo _ | .wrGeomHRo _ | .wrGeomBppRo _ | .wrGeomPitchRo _ | .wrGeomTotalRo _
  | .wrGeomLpbRo _ => true
  | .stepPreflight | .stepSync | .stepHeaderSyncing | .stepHeaderStreaming | .stepPayload | .stepProbe
  | .stepExhaust | .rdCtrl | .rdMode | .rdPreflight | .rdStatus | .rdEvents
  | .rdIrqEn | .rdSkipCount | .rdProbeCount | .rdLine | .rdOutRow | .rdTeleCount
  | .rdLastHdrId | .rdLastHdrCrc | .rdBuserrCause | .rdBuserrAddr | .rdGeomW | .rdGeomH
  | .rdGeomBpp | .rdGeomPitch | .rdGeomTotal | .rdGeomLpb | .rdTRevMajor | .rdTRevMinor
  | .rdTUptimeLo | .rdTUptimeHi | .rdTFlags | .rdTSerial0 | .rdTSerial1 | .rdTSerial2
  | .rdTSerial3 | .rdTSerial4 | .rdTSerial5 | .rdTSerial6 | .rdTSerial7 | .rdTSwrev0
  | .rdTSwrev1 | .rdTSwrev2 | .rdTSwrev3 | .rdTFramecntLo | .rdTFramecntHi | .rdTFrameMean
  | .rdTFpaTemp | .rdTFpaTempFfc | .rdTHousTemp | .rdTHousTempFfc | .rdTRoiTop | .rdTRoiLeft
  | .rdTRoiBottom | .rdTRoiRight | .rdTClipHi | .rdTClipLo | .rdTLog2Ffc => true

end Sys2Proof
end

