-- ==== Sys2Proof/Decode.lean ====
section
/-! DEFINITION. The decoder (30_encoding.md): headers, engine-step vectors and host transactions, total on any bytes
and rejecting by name; and after it the encoder, written from spec/opcode_table.json. -/

namespace Sys2Proof

/-! ## Headers -/

/-- is_discard(H): H[31:28] = 0xF (30_encoding.md R145; 90_conflicts.md C1). -/
def isDiscard (h : BitVec 32) : Bool := decide (h.extractLsb' 28 4 = Config.discardNibble)

/-- LN(H): H[23:16], header byte 1 (30_encoding.md R146). -/
def headerLine (h : BitVec 32) : Byte := h.extractLsb' 16 8

/-- LN(H) against an engine line counter, zero-extended to 8 bits (30_encoding.md R146). -/
def lineMatches (h : BitVec 32) (line : BitVec 6) : Bool := decide (headerLine h = line.setWidth 8)

/-- The five header classes (30_encoding.md R147). -/
inductive HeaderClass where
  | discard | telemetry | image | newframe | outOfSync
  deriving DecidableEq, Repr

/-- The class of a header, decided in the order of the priorities of 30_encoding.md R147. -/
def headerClass (c : HeaderContext) (h : BitVec 32) : HeaderClass :=
  if isDiscard h then .discard
  else if c.window then .telemetry
  else if decide (c.line.toNat < Config.rawH) && lineMatches h c.line then .image
  else if c.probing && decide (headerLine h = 0) then .newframe
  else .outOfSync

/-- The header instruction of a header in a context. -/
def decodeHeader (c : HeaderContext) (h : BitVec 32) : Instr :=
  match headerClass c h with
  | .discard => .hdrDiscard h
  | .telemetry => .hdrTelemetry h
  | .image => .hdrImage h
  | .newframe => .hdrNewframe h
  | .outOfSync => .hdrOutOfSync h

/-! ## Engine steps -/

/-- Why the decoder refuses some bytes: there are not as many as the port's format has; bits of a host word above T
are set; bits of a step byte above E are set; E says IDLE, where no step is enabled (42_synchronizer.md R260); E says
a state 5..7, which never occurs (10_state.md R36). -/
inductive DecodeError where
  | wrongLength | reservedHostBits | reservedStepBits | noStepEnabled | noSuchState
  deriving DecidableEq, Repr

/-- The engine_step rows (match, mask, instruction) over E = (st, sync_done, pend other than NONE, probe = 120)
(30_encoding.md R155). -/
def stepRows : List (BitVec 6 × BitVec 6 × Instr) :=
  [(0b001000, 0b111000, .stepPreflight),
   (0b010000, 0b111100, .stepSync),
   (0b010100, 0b111100, .stepHeaderSyncing),
   (0b011000, 0b111010, .stepHeaderStreaming),
   (0b011010, 0b111010, .stepPayload),
   (0b100000, 0b111001, .stepProbe),
   (0b100001, 0b111001, .stepExhaust)]

/-- The engine step a select vector E enables. -/
def decodeStep (e : BitVec 6) : Except DecodeError Instr :=
  match stepRows.find? (fun r => decide (e &&& r.2.1 = r.1)) with
  | some r => .ok r.2.2
  | none => if e.extractLsb' 3 3 = 0 then .error .noStepEnabled else .error .noSuchState

/-! ## Host transactions -/

/-- The regions of the host address space (30_encoding.md R151). -/
inductive Region where
  | misaligned | img | traw | tfield | control | unmapped
  deriving DecidableEq, Repr

/-- The region of an address, decided in the order of 30_encoding.md R151. -/
def region (a : Word) : Region :=
  if a.getLsbD 0 then .misaligned
  else if a.extractLsb' 14 2 = 0b01 ∧ a < 0x6580 then .img
  else if a.extractLsb' 8 8 = 0x02 ∧ a < 0x02A4 then .traw
  else if a.extractLsb' 8 8 = 0x01 ∧ a ≤ 0x013C then .tfield
  else if a ≤ 0x0028 then .control
  else .unmapped

/-- The control registers: address, read row, write row (10_state.md R31; 30_encoding.md R155). -/
def controlRows : List (Word × Instr × (Word → Instr)) :=
  [
   (0x0000, .rdCtrl, .wrCtrl),
   (0x0002, .rdMode, .wrMode),
   (0x0004, .rdPreflight, .wrPreflight),
   (0x0006, .rdStatus, .wrStatusRo),
   (0x0008, .rdEvents, .wrEvents),
   (0x000A, .rdIrqEn, .wrIrqEn),
   (0x000C, .rdSkipCount, .wrSkipCountRo),
   (0x000E, .rdProbeCount, .wrProbeCountRo),
   (0x0010, .rdLine, .wrLineRo),
   (0x0012, .rdOutRow, .wrOutRowRo),
   (0x0014, .rdTeleCount, .wrTeleCountRo),
   (0x0016, .rdLastHdrId, .wrLastHdrIdRo),
   (0x0018, .rdLastHdrCrc, .wrLastHdrCrcRo),
   (0x001A, .rdBuserrCause, .wrBuserrCauseRo),
   (0x001C, .rdBuserrAddr, .wrBuserrAddrRo),
   (0x001E, .rdGeomW, .wrGeomWRo),
   (0x0020, .rdGeomH, .wrGeomHRo),
   (0x0022, .rdGeomBpp, .wrGeomBppRo),
   (0x0024, .rdGeomPitch, .wrGeomPitchRo),
   (0x0026, .rdGeomTotal, .wrGeomTotalRo),
   (0x0028, .rdGeomLpb, .wrGeomLpbRo)]

/-- The decoded telemetry registers: address and read row (45_telemetry_decoder.md R365 to R395). -/
def teleRows : List (Word × Instr) :=
  [
   (0x0100, .rdTRevMajor), (0x0102, .rdTRevMinor), (0x0104, .rdTUptimeLo),
   (0x0106, .rdTUptimeHi), (0x0108, .rdTFlags), (0x010A, .rdTSerial0),
   (0x010C, .rdTSerial1), (0x010E, .rdTSerial2), (0x0110, .rdTSerial3),
   (0x0112, .rdTSerial4), (0x0114, .rdTSerial5), (0x0116, .rdTSerial6),
   (0x0118, .rdTSerial7), (0x011A, .rdTSwrev0), (0x011C, .rdTSwrev1),
   (0x011E, .rdTSwrev2), (0x0120, .rdTSwrev3), (0x0122, .rdTFramecntLo),
   (0x0124, .rdTFramecntHi), (0x0126, .rdTFrameMean), (0x0128, .rdTFpaTemp),
   (0x012A, .rdTFpaTempFfc), (0x012C, .rdTHousTemp), (0x012E, .rdTHousTempFfc),
   (0x0130, .rdTRoiTop), (0x0132, .rdTRoiLeft), (0x0134, .rdTRoiBottom),
   (0x0136, .rdTRoiRight), (0x0138, .rdTClipHi), (0x013A, .rdTClipLo),
   (0x013C, .rdTLog2Ffc)]

/-- The access a transaction asks for. -/
def accessOf (rw : Bool) (a d : Word) : Access := if rw then .wr a d else .rd a

/-- The instruction of a host transaction (T, wdata); every transaction has exactly one (30_encoding.md R151, R153).
A read has no use for wdata (log 12). -/
def decodeHost (t : BitVec 17) (d : Word) : Instr :=
  let rw := t.getLsbD 16
  let a : Word := t.extractLsb' 0 16
  match region a with
  | .misaligned => .accMisaligned (accessOf rw a d)
  | .img => if rw then .wrImgRo a d else .rdImg a
  | .traw => if rw then .wrTrawRo a d else .rdTraw a
  | .tfield =>
    if rw then .wrTfieldRo a d
    else match teleRows.find? (fun r => decide (r.1 = a)) with
      | some r => r.2
      | none => .accUnmapped (.rd a)
  | .control =>
    match controlRows.find? (fun r => decide (r.1 = a)) with
    | some r => if rw then r.2.2 d else r.2.1
    | none => .accUnmapped (accessOf rw a d)
  | .unmapped => .accUnmapped (accessOf rw a d)

/-! ## The decoder over bytes -/

/-- Where an instruction's bytes come from: a host transaction (5 bytes), the engine's select vector (1 byte), or a
header of the stream read in a context (4 bytes). -/
inductive Port where
  | host
  | engine
  | header (c : HeaderContext)
  deriving DecidableEq, Repr

/-- The instruction some bytes are. Host: T in three bytes, then wdata in two, the least significant byte first
(log 12). Engine: E in the low six bits. Header: bytes 0..3 of the packet in wire order, byte 0 in H[31:24]
(30_encoding.md R141). -/
def decode (p : Port) (bytes : List Byte) : Except DecodeError Instr :=
  match p, bytes with
  | .host, [t0, t1, t2, d0, d1] =>
    if t2.extractLsb' 1 7 = 0 then .ok (decodeHost (t2.extractLsb' 0 1 ++ t1 ++ t0) (d1 ++ d0))
    else .error .reservedHostBits
  | .engine, [e] => if e.extractLsb' 6 2 = 0 then decodeStep (e.extractLsb' 0 6) else .error .reservedStepBits
  | .header c, [b0, b1, b2, b3] => .ok (decodeHeader c (b0 ++ b1 ++ b2 ++ b3))
  | _, _ => .error .wrongLength

/-! ## The encoder -/

/-- The five bytes of a host transaction. -/
def hostBytes (t : BitVec 17) (d : Word) : List Byte :=
  [t.extractLsb' 0 8, t.extractLsb' 8 8, (t.extractLsb' 16 1).setWidth 8, d.extractLsb' 0 8, d.extractLsb' 8 8]

/-- The four bytes of a header in wire order (30_encoding.md R141). -/
def headerBytes (h : BitVec 32) : List Byte :=
  [h.extractLsb' 24 8, h.extractLsb' 16 8, h.extractLsb' 8 8, h.extractLsb' 0 8]

/-- T of a read of an address: rw = 0 in bit 16 (30_encoding.md R150). -/
def readT (a : Word) : BitVec 17 := a.setWidth 17

/-- T of a write of an address: rw = 1 in bit 16 (30_encoding.md R150). -/
def writeT (a : Word) : BitVec 17 := 0x10000 ||| a.setWidth 17

/-- The bytes of a host access. -/
def accessBytes : Access → List Byte
  | .rd a => hostBytes (readT a) 0
  | .wr a d => hostBytes (writeT a) d

/-- The bytes of an instruction, from the rows of spec/opcode_table.json; the bits of E that a step row's mask leaves
out are written 0. -/
def encode (i : Instr) : List Byte :=
  match i with
  | .hdrDiscard h => headerBytes h
  | .hdrTelemetry h => headerBytes h
  | .hdrImage h => headerBytes h
  | .hdrNewframe h => headerBytes h
  | .hdrOutOfSync h => headerBytes h
  | .stepPreflight => [0b00001000]
  | .stepSync => [0b00010000]
  | .stepHeaderSyncing => [0b00010100]
  | .stepHeaderStreaming => [0b00011000]
  | .stepPayload => [0b00011010]
  | .stepProbe => [0b00100000]
  | .stepExhaust => [0b00100001]
  | .rdCtrl => hostBytes 0x00000 0
  | .rdMode => hostBytes 0x00002 0
  | .rdPreflight => hostBytes 0x00004 0
  | .rdStatus => hostBytes 0x00006 0
  | .rdEvents => hostBytes 0x00008 0
  | .rdIrqEn => hostBytes 0x0000A 0
  | .rdSkipCount => hostBytes 0x0000C 0
  | .rdProbeCount => hostBytes 0x0000E 0
  | .rdLine => hostBytes 0x00010 0
  | .rdOutRow => hostBytes 0x00012 0
  | .rdTeleCount => hostBytes 0x00014 0
  | .rdLastHdrId => hostBytes 0x00016 0
  | .rdLastHdrCrc => hostBytes 0x00018 0
  | .rdBuserrCause => hostBytes 0x0001A 0
  | .rdBuserrAddr => hostBytes 0x0001C 0
  | .rdGeomW => hostBytes 0x0001E 0
  | .rdGeomH => hostBytes 0x00020 0
  | .rdGeomBpp => hostBytes 0x00022 0
  | .rdGeomPitch => hostBytes 0x00024 0
  | .rdGeomTotal => hostBytes 0x00026 0
  | .rdGeomLpb => hostBytes 0x00028 0
  | .wrCtrl d => hostBytes 0x10000 d
  | .wrMode d => hostBytes 0x10002 d
  | .wrPreflight d => hostBytes 0x10004 d
  | .wrEvents d => hostBytes 0x10008 d
  | .wrIrqEn d => hostBytes 0x1000A d
  | .wrStatusRo d => hostBytes 0x10006 d
  | .wrSkipCountRo d => hostBytes 0x1000C d
  | .wrProbeCountRo d => hostBytes 0x1000E d
  | .wrLineRo d => hostBytes 0x10010 d
  | .wrOutRowRo d => hostBytes 0x10012 d
  | .wrTeleCountRo d => hostBytes 0x10014 d
  | .wrLastHdrIdRo d => hostBytes 0x10016 d
  | .wrLastHdrCrcRo d => hostBytes 0x10018 d
  | .wrBuserrCauseRo d => hostBytes 0x1001A d
  | .wrBuserrAddrRo d => hostBytes 0x1001C d
  | .wrGeomWRo d => hostBytes 0x1001E d
  | .wrGeomHRo d => hostBytes 0x10020 d
  | .wrGeomBppRo d => hostBytes 0x10022 d
  | .wrGeomPitchRo d => hostBytes 0x10024 d
  | .wrGeomTotalRo d => hostBytes 0x10026 d
  | .wrGeomLpbRo d => hostBytes 0x10028 d
  | .rdImg a => hostBytes (readT a) 0
  | .wrImgRo a d => hostBytes (writeT a) d
  | .rdTraw a => hostBytes (readT a) 0
  | .wrTrawRo a d => hostBytes (writeT a) d
  | .rdTRevMajor => hostBytes 0x00100 0
  | .rdTRevMinor => hostBytes 0x00102 0
  | .rdTUptimeLo => hostBytes 0x00104 0
  | .rdTUptimeHi => hostBytes 0x00106 0
  | .rdTFlags => hostBytes 0x00108 0
  | .rdTSerial0 => hostBytes 0x0010A 0
  | .rdTSerial1 => hostBytes 0x0010C 0
  | .rdTSerial2 => hostBytes 0x0010E 0
  | .rdTSerial3 => hostBytes 0x00110 0
  | .rdTSerial4 => hostBytes 0x00112 0
  | .rdTSerial5 => hostBytes 0x00114 0
  | .rdTSerial6 => hostBytes 0x00116 0
  | .rdTSerial7 => hostBytes 0x00118 0
  | .rdTSwrev0 => hostBytes 0x0011A 0
  | .rdTSwrev1 => hostBytes 0x0011C 0
  | .rdTSwrev2 => hostBytes 0x0011E 0
  | .rdTSwrev3 => hostBytes 0x00120 0
  | .rdTFramecntLo => hostBytes 0x00122 0
  | .rdTFramecntHi => hostBytes 0x00124 0
  | .rdTFrameMean => hostBytes 0x00126 0
  | .rdTFpaTemp => hostBytes 0x00128 0
  | .rdTFpaTempFfc => hostBytes 0x0012A 0
  | .rdTHousTemp => hostBytes 0x0012C 0
  | .rdTHousTempFfc => hostBytes 0x0012E 0
  | .rdTRoiTop => hostBytes 0x00130 0
  | .rdTRoiLeft => hostBytes 0x00132 0
  | .rdTRoiBottom => hostBytes 0x00134 0
  | .rdTRoiRight => hostBytes 0x00136 0
  | .rdTClipHi => hostBytes 0x00138 0
  | .rdTClipLo => hostBytes 0x0013A 0
  | .rdTLog2Ffc => hostBytes 0x0013C 0
  | .wrTfieldRo a d => hostBytes (writeT a) d
  | .accUnmapped x => accessBytes x
  | .accMisaligned x => accessBytes x

/-- The port an instruction comes from; a header comes in a context. -/
def portOf (c : HeaderContext) (i : Instr) : Port :=
  match i with
  | .hdrDiscard _ | .hdrTelemetry _ | .hdrImage _ | .hdrNewframe _ | .hdrOutOfSync _ => .header c
  | .stepPreflight | .stepSync | .stepHeaderSyncing | .stepHeaderStreaming | .stepPayload | .stepProbe | .stepExhaust => .engine
  | .rdCtrl | .rdMode | .rdPreflight | .rdStatus | .rdEvents
  | .rdIrqEn | .rdSkipCount | .rdProbeCount | .rdLine | .rdOutRow
  | .rdTeleCount | .rdLastHdrId | .rdLastHdrCrc | .rdBuserrCause | .rdBuserrAddr
  | .rdGeomW | .rdGeomH | .rdGeomBpp | .rdGeomPitch | .rdGeomTotal
  | .rdGeomLpb | .wrCtrl _ | .wrMode _ | .wrPreflight _ | .wrEvents _
  | .wrIrqEn _ | .wrStatusRo _ | .wrSkipCountRo _ | .wrProbeCountRo _ | .wrLineRo _
  | .wrOutRowRo _ | .wrTeleCountRo _ | .wrLastHdrIdRo _ | .wrLastHdrCrcRo _ | .wrBuserrCauseRo _
  | .wrBuserrAddrRo _ | .wrGeomWRo _ | .wrGeomHRo _ | .wrGeomBppRo _ | .wrGeomPitchRo _
  | .wrGeomTotalRo _ | .wrGeomLpbRo _ | .rdImg _ | .wrImgRo _ _ | .rdTraw _
  | .wrTrawRo _ _ | .rdTRevMajor | .rdTRevMinor | .rdTUptimeLo | .rdTUptimeHi
  | .rdTFlags | .rdTSerial0 | .rdTSerial1 | .rdTSerial2 | .rdTSerial3
  | .rdTSerial4 | .rdTSerial5 | .rdTSerial6 | .rdTSerial7 | .rdTSwrev0
  | .rdTSwrev1 | .rdTSwrev2 | .rdTSwrev3 | .rdTFramecntLo | .rdTFramecntHi
  | .rdTFrameMean | .rdTFpaTemp | .rdTFpaTempFfc | .rdTHousTemp | .rdTHousTempFfc
  | .rdTRoiTop | .rdTRoiLeft | .rdTRoiBottom | .rdTRoiRight | .rdTClipHi
  | .rdTClipLo | .rdTLog2Ffc | .wrTfieldRo _ _ | .accUnmapped _ | .accMisaligned _ => .host

/-! ## The table's words -/

/-- The context of the header a freshly reset block would classify: no telemetry, line 0, no probe. -/
def resetContext : HeaderContext := { window := false, line := 0, probing := false }

/-- The four bytes in wire order of a 32-bit header word. -/
def wordHeader (w : Nat) : List Byte := headerBytes (BitVec.ofNat 32 w)

/-- The five bytes of a host word of 40 bits: T in bits 23..0, wdata in bits 39..24. -/
def wordHost (w : Nat) : List Byte := (List.range 5).map fun k => BitVec.ofNat 8 (w / 256 ^ k)

/-- The port and bytes of a table word of `nbits` bits (log 13): 32 bits are a header; 8 bits are a step vector where
they are one, else T with its upper bits 0; any other width up to 40 bits is a host word. -/
def tableBytes (nbits w : Nat) : Option (Port × List Byte) :=
  let v := w % 2 ^ nbits
  if nbits = 32 then some (.header resetContext, wordHeader v)
  else if nbits ≤ 8 ∧ (decode .engine [BitVec.ofNat 8 v]).isOk then some (.engine, [BitVec.ofNat 8 v])
  else if nbits ≤ 40 then some (.host, wordHost v)
  else none

/-- The instruction the decoder reads from a word of the opcode table, bit 0 the least significant bit of the first
word, every bit above `nbits` 0; none where it refuses. -/
def decodeTableWord (nbits w : Nat) : Option Instr :=
  match tableBytes nbits w with
  | some (p, bytes) => (decode p bytes).toOption
  | none => none

end Sys2Proof
end

