-- ==== Sys2Proof/Machine/State.lean ====
section
/-! DEFINITION. The machine's state as plain data: every piece of state of 10_state.md, the model's own fields, the
reasons a step can stop, and the state after reset. -/

namespace Sys2Proof.Machine

/-- The six storage modes (40_geometry.md R180): width, height, bits per pixel. -/
inductive StorageMode where
  | m80x60x16 | m80x60x8 | m40x30x16 | m40x30x8 | m20x15x16 | m20x15x8
  deriving DecidableEq, Repr

/-- The engine states (10_state.md R36); no other value of the 3-bit field occurs. -/
inductive EngineState where
  | idle | preflight | syncing | streaming | resyncing
  deriving DecidableEq, Repr

/-- The payload read owed by the header just accepted (10_state.md R65). -/
inductive Pend where
  | none | img | telStore | telDrop
  deriving DecidableEq, Repr

/-- The result of the most recent capture that ended (10_state.md R37). -/
inductive Result where
  | none | done | notBooted | frameSkipLimit | resyncExhausted
  deriving DecidableEq, Repr

/-- The response code of a host access (30_encoding.md R150). -/
inductive Resp where
  | okay | err
  deriving DecidableEq, Repr

/-- The response of a host access: its code and rdata (30_encoding.md R150). -/
structure Response where
  resp : Resp
  rdata : Word
  deriving DecidableEq, Repr

/-- One move of the environment (log 1): a host transaction; the engine's turn, fetched by its select vector or by the
header that stands next in the stream (log 11); the transport delivering stream bytes or reporting the sync pulse
done; the block reset. -/
inductive Input where
  | host (t : BitVec 17) (wdata : Word)
  | engine
  | header
  | stream (bytes : List Byte)
  | pulseDone
  | reset
  deriving DecidableEq, Repr

/-- A RAM's written bytes: (offset, byte) pairs, offsets strictly rising; an offset not listed has not been written
since reset (log 4). -/
abbrev Memory := List Host.Cell

/-- The state of the VoSPI capture block. The fields up to `tel` are the spec's; `response`, `inputs`, `stream`,
`pulseDone` and `epoch` are the model's own (log 1, 3, 6, 7, 8). -/
structure State where
  /-- MODE (10_state.md R33) -/
  mode : StorageMode
  /-- PREFLIGHT: bit 0 AGC8, 1 TELE_EN, 2 TELE_LOC, 3 BOOTED (10_state.md R34) -/
  preflight : BitVec 4
  /-- EVENTS: bit 0 DONE, 1 START_IGNORED, 2 BUSERR (10_state.md R40) -/
  events : BitVec 3
  /-- IRQ_EN, one enable per event (10_state.md R41) -/
  irqEn : BitVec 3
  /-- BUSERR_CAUSE (10_state.md R49) -/
  busErrCause : BitVec 4
  /-- BUSERR_ADDR (10_state.md R50) -/
  busErrAddr : Word
  /-- the engine state st (10_state.md R63) -/
  st : EngineState
  /-- sync_done (10_state.md R64) -/
  syncDone : Bool
  /-- pend (10_state.md R65) -/
  pend : Pend
  /-- line, the next expected raw line (10_state.md R44, R66) -/
  line : BitVec 6
  /-- out_row, output rows completed (10_state.md R45, R66) -/
  outRow : BitVec 6
  /-- tele, telemetry sub-packets accepted (10_state.md R46, R66) -/
  tele : BitVec 2
  /-- skip, frames skipped (10_state.md R42, R66) -/
  skip : BitVec 3
  /-- probe, probes of the resynchronization episode (10_state.md R43, R66) -/
  probe : BitVec 7
  /-- hdr, the last header read, as H (10_state.md R67; 30_encoding.md R141) -/
  hdr : BitVec 32
  /-- result (10_state.md R37, R68) -/
  result : Result
  /-- frame_valid (10_state.md R38, R68) -/
  frameValid : Bool
  /-- tbuf_alloc (10_state.md R39, R68) -/
  tbufAlloc : Bool
  /-- bus_held, the exclusive transport bracket (10_state.md R68) -/
  busHeld : Bool
  /-- IMG, 9600 bytes (10_state.md R70) -/
  img : Memory
  /-- SCR, 704 bytes (10_state.md R70) -/
  scr : Memory
  /-- TEL, 164 bytes (10_state.md R70) -/
  tel : Memory
  /-- the last response at the host port; none before the first transaction since reset (log 6) -/
  response : Option Response
  /-- the moves still to come, the next one first (log 1) -/
  inputs : List Input
  /-- stream bytes delivered and not yet consumed, the next one first (log 7) -/
  stream : List Byte
  /-- the transport has reported the requested sync pulse done (log 8) -/
  pulseDone : Bool
  /-- how many block resets there were: the argument of the free power-on bytes (log 3) -/
  epoch : Nat
  deriving DecidableEq, Repr

/-- The state right after reset (10_state.md R75; 70_reset_and_hazards.md R440, R441). -/
def State.reset : State where
  mode := .m80x60x16
  preflight := 0
  events := 0
  irqEn := 0
  busErrCause := 0
  busErrAddr := 0
  st := .idle
  syncDone := false
  pend := .none
  line := 0
  outRow := 0
  tele := 0
  skip := 0
  probe := 0
  hdr := 0
  result := .none
  frameValid := false
  tbufAlloc := false
  busHeld := false
  img := []
  scr := []
  tel := []
  response := none
  inputs := []
  stream := []
  pulseDone := false
  epoch := 0

/-- Why a step stops with a fault. -/
inductive Fault where
  /-- Raised by `memWrite`: the engine would store outside a RAM, at an offset the spec says does not exist
  (10_state.md R70). Safe: it takes an image payload owed with line at 60 or more, which no run from reset reaches
  (42_synchronizer.md R268; log 15). -/
  | ramRange (r : Ram) (off : Nat)
  deriving DecidableEq, Repr

/-- Why a step is refused. -/
inductive Refusal where
  /-- Raised only by an arm of `exec` whose instruction has no meaning yet; no arm does. Safe. -/
  | notModelled (mnemonic : String)
  deriving DecidableEq, Repr

/-- What a meaning answers. -/
abbrev Out := Host.Outcome State Fault Refusal

end Sys2Proof.Machine
end

