-- ==== Sys2Proof/Machine/Geometry.lean ====
section
/-! DEFINITION. Storage modes and geometry (40_geometry.md): pure functions of MODE. -/

namespace Sys2Proof.Machine

/-- The MODE encoding (40_geometry.md R180). -/
def modeCode (m : StorageMode) : BitVec 3 :=
  match m with
  | .m80x60x16 => 0
  | .m80x60x8 => 1
  | .m40x30x16 => 2
  | .m40x30x8 => 3
  | .m20x15x16 => 4
  | .m20x15x8 => 5

/-- The mode a MODE field stands for; none for the illegal values 6 and 7 (10_state.md R33). -/
def modeOf (b : BitVec 3) : Option StorageMode :=
  match b.toNat with
  | 0 => some .m80x60x16
  | 1 => some .m80x60x8
  | 2 => some .m40x30x16
  | 3 => some .m40x30x8
  | 4 => some .m20x15x16
  | 5 => some .m20x15x8
  | _ => none

/-- width(m) (40_geometry.md R181). -/
def width (m : StorageMode) : Nat :=
  match m with
  | .m80x60x16 | .m80x60x8 => 80
  | .m40x30x16 | .m40x30x8 => 40
  | .m20x15x16 | .m20x15x8 => 20

/-- height(m) (40_geometry.md R181). -/
def height (m : StorageMode) : Nat :=
  match m with
  | .m80x60x16 | .m80x60x8 => 60
  | .m40x30x16 | .m40x30x8 => 30
  | .m20x15x16 | .m20x15x8 => 15

/-- bpp(m), bytes per pixel (40_geometry.md R181). -/
def bpp (m : StorageMode) : Nat :=
  match m with
  | .m80x60x16 | .m40x30x16 | .m20x15x16 => 2
  | .m80x60x8 | .m40x30x8 | .m20x15x8 => 1

/-- lpb(m), raw lines per band (40_geometry.md R185). -/
def lpb (m : StorageMode) : Nat :=
  match m with
  | .m80x60x16 | .m80x60x8 => 1
  | .m40x30x16 | .m40x30x8 => 2
  | .m20x15x16 | .m20x15x8 => 4

/-- pitch(m): width · bpp rounded up to a multiple of 16 (40_geometry.md R182). -/
def pitch (m : StorageMode) : Nat := (width m * bpp m + (Config.align - 1)) / Config.align * Config.align

/-- total(m): image bytes, the last row without pad (40_geometry.md R183). -/
def total (m : StorageMode) : Nat := (height m - 1) * pitch m + width m * bpp m

/-- direct(m): only MODE 0 stores payloads straight into IMG (40_geometry.md R187). -/
def direct (m : StorageMode) : Bool := decide (m = .m80x60x16)

/-- The IMG offset of row r (40_geometry.md R188). -/
def rowOffset (m : StorageMode) (r : Nat) : Nat := r * pitch m

/-- The SCR offset of slot k (40_geometry.md R190). -/
def slotOffset (k : Nat) : Nat := Config.slotBytes * k

end Sys2Proof.Machine
end

