-- ==== Sys2Proof/Machine/Memory.lean ====
section
/-! DEFINITION. The RAMs as lists of written bytes, and the memory primitives of 00_scope.md R13. -/

namespace Sys2Proof.Machine

/-- The byte a memory lists at an offset; none where nothing has been written (log 4). -/
def Memory.get (m : Memory) (a : Nat) : Option Byte :=
  match m with
  | [] => none
  | (b, v) :: rest => if b = a then some v else Memory.get rest a

/-- Consecutive bytes as cells from an offset. -/
def cellsFrom (off : Nat) (bytes : List Byte) : Memory :=
  match bytes with
  | [] => []
  | v :: rest => (off, v) :: cellsFrom (off + 1) rest

/-- The cells below an offset. -/
def Memory.below (m : Memory) (off : Nat) : Memory := m.filter fun c => decide (c.1 < off)

/-- The cells at an offset and above. -/
def Memory.above (m : Memory) (off : Nat) : Memory := m.filter fun c => decide (off ≤ c.1)

/-- Writes consecutive bytes from an offset, keeping the canonical form. -/
def Memory.write (m : Memory) (off : Nat) (bytes : List Byte) : Memory :=
  m.below off ++ (cellsFrom off bytes ++ m.above (off + bytes.length))

/-- Offsets strictly rise from a lower bound on and stay below a size. -/
def Memory.wfFrom (lo size : Nat) (m : Memory) : Bool :=
  match m with
  | [] => true
  | (a, _) :: rest => decide (lo ≤ a) && decide (a < size) && Memory.wfFrom (a + 1) size rest

/-- The canonical form of a RAM of a size: offsets strictly rising, each below the size (log 4). -/
def Memory.wf (size : Nat) (m : Memory) : Bool := Memory.wfFrom 0 size m

/-- The size of a RAM (10_state.md R70). -/
def ramSize (r : Ram) : Nat :=
  match r with
  | .img => Config.imgRamBytes
  | .scr => Config.scrRamBytes
  | .tel => Config.telRamBytes

/-- The written bytes of a RAM. -/
def ramCells (r : Ram) (s : State) : Memory :=
  match r with
  | .img => s.img
  | .scr => s.scr
  | .tel => s.tel

/-- A state with other contents in a RAM. -/
def setRam (r : Ram) (m : Memory) (s : State) : State :=
  match r with
  | .img => { s with img := m }
  | .scr => { s with scr := m }
  | .tel => { s with tel := m }

/-- The byte a RAM holds at an offset: the last one written since reset, else the free power-on byte
(10_state.md R72; log 3). -/
def readByte (r : Ram) (s : State) (a : Nat) : Byte :=
  match (ramCells r s).get a with
  | some v => v
  | none => Config.powerOn r s.epoch a

/-- MemRead(R, off, n) (00_scope.md R13). -/
def memRead (r : Ram) (s : State) (off n : Nat) : List Byte := (List.range n).map fun k => readByte r s (off + k)

/-- MemWrite(R, off, n, v) with n the number of bytes given (00_scope.md R13); an offset outside the RAM is a
fault (log 15). -/
def memWrite (r : Ram) (off : Nat) (bytes : List Byte) (s : State) : Out :=
  if off + bytes.length ≤ ramSize r then .next (setRam r ((ramCells r s).write off bytes) s)
  else .fault (.ramRange r off)

/-- be16(b0, b1): a big-endian 16-bit value (00_scope.md R13). -/
def be16 (b0 b1 : Byte) : Word := b0 ++ b1

/-- Word(R, off) (00_scope.md R13). -/
def ramWord (r : Ram) (s : State) (off : Nat) : Word := be16 (readByte r s off) (readByte r s (off + 1))

/-- The state a first operation answers goes to a second one; a stop stays. -/
def andThen (o : Out) (f : State → Out) : Out :=
  match o with
  | .next s => f s
  | .fault r => .fault r
  | .refused r => .refused r

end Sys2Proof.Machine
end

