-- ==== Sys2Proof/Machine/Flags.lean ====
section
/-! DEFINITION. Every flag and status view: the bits of PREFLIGHT, EVENTS and STATUS, their encodings, and irq. -/

namespace Sys2Proof.Machine

/-- PREFLIGHT.AGC8 (10_state.md R34). -/
def agc8 (s : State) : Bool := s.preflight.getLsbD 0
/-- PREFLIGHT.TELE_EN (10_state.md R34). -/
def teleEn (s : State) : Bool := s.preflight.getLsbD 1
/-- PREFLIGHT.TELE_LOC: false header, true footer placement (10_state.md R34). -/
def teleLoc (s : State) : Bool := s.preflight.getLsbD 2
/-- PREFLIGHT.BOOTED (10_state.md R34). -/
def booted (s : State) : Bool := s.preflight.getLsbD 3

/-- EVENTS.DONE (10_state.md R40). -/
def eventDone : BitVec 3 := 0b001
/-- EVENTS.START_IGNORED (10_state.md R40). -/
def eventStartIgnored : BitVec 3 := 0b010
/-- EVENTS.BUSERR (10_state.md R40). -/
def eventBusErr : BitVec 3 := 0b100

/-- Sets an event; a bit already 1 stays 1 (60_exceptions.md R411). -/
def setEvent (e : BitVec 3) (s : State) : State := { s with events := s.events ||| e }

/-- The STATE encoding (10_state.md R36). -/
def stateCode (x : EngineState) : BitVec 3 :=
  match x with
  | .idle => 0
  | .preflight => 1
  | .syncing => 2
  | .streaming => 3
  | .resyncing => 4

/-- The RESULT encoding (10_state.md R37). -/
def resultCode (x : Result) : BitVec 3 :=
  match x with
  | .none => 0
  | .done => 1
  | .notBooted => 2
  | .frameSkipLimit => 3
  | .resyncExhausted => 4

/-- STATUS.BUSY: STATE is not IDLE (10_state.md R35). -/
def busy (s : State) : Bool := decide (s.st ≠ .idle)

/-- TEL byte 0 is the sentinel (10_state.md R39; 45_telemetry_decoder.md R362). -/
def sentinel (s : State) : Bool := decide (readByte .tel s 0 = Config.teleSentinel)

/-- STATUS.TELE_READY (10_state.md R39). -/
def teleReady (s : State) : Bool := s.tbufAlloc && !sentinel s

/-- A flag as one bit. -/
def bit (b : Bool) : BitVec 1 := BitVec.ofBool b

/-- STATUS (10_state.md R35; 41_host_interface.md R207). -/
def statusWord (s : State) : Word :=
  0#6 ++ bit (teleReady s) ++ bit s.tbufAlloc ++ bit s.frameValid ++ resultCode s.result ++ bit (busy s) ++
    stateCode s.st

/-- The interrupt output, a level (60_exceptions.md R410; log 18). -/
def irq (s : State) : Bool := decide (s.events &&& s.irqEn ≠ 0)

/-- A bus holds while the engine is past preflight: SYNCING, STREAMING or RESYNCING (20_memory.md R126). -/
def capturing (s : State) : Bool :=
  match s.st with
  | .idle => false
  | .preflight => false
  | .syncing => true
  | .streaming => true
  | .resyncing => true

end Sys2Proof.Machine
end

