-- ==== Sys2Proof/Machine/Operands.lean ====
section
/-! DEFINITION. The operand forms: headers against the engine's counters (42_synchronizer.md R266 to R269), the
engine's select vector (30_encoding.md R155), window offsets, telemetry words and fields (45_telemetry_decoder.md). -/

namespace Sys2Proof.Machine

/-- The header of four stream bytes, byte 0 first (30_encoding.md R141). -/
def headerOf (bytes : List Byte) : BitVec 32 :=
  match bytes with
  | [b0, b1, b2, b3] => b0 ++ b1 ++ b2 ++ b3
  | _ => 0

/-- LAST_HDR_ID: be16(hdr[0], hdr[1]) (10_state.md R47). -/
def headerId (h : BitVec 32) : Word := be16 (h.extractLsb' 24 8) (h.extractLsb' 16 8)

/-- LAST_HDR_CRC: be16(hdr[2], hdr[3]) (10_state.md R48). -/
def headerCrc (h : BitVec 32) : Word := be16 (h.extractLsb' 8 8) (h.extractLsb' 0 8)

/-- TPOS (42_synchronizer.md R266). -/
def tpos (s : State) : Nat := if teleLoc s then Config.tposFooter else Config.tposHeader

/-- in_window: the telemetry window is open (42_synchronizer.md R266). -/
def inWindow (s : State) : Bool :=
  teleEn s && decide (s.tele.toNat < Config.teleRows) && decide (s.line.toNat = tpos s)

/-- is_tele(H) (42_synchronizer.md R267). -/
def isTele (h : BitVec 32) (s : State) : Bool := !isDiscard h && inWindow s

/-- is_image(H) (42_synchronizer.md R268). -/
def isImage (h : BitVec 32) (s : State) : Bool :=
  !isDiscard h && !inWindow s && decide (s.line.toNat < Config.rawH) && lineMatches h s.line

/-- matches(H) (42_synchronizer.md R269). -/
def matchesHeader (h : BitVec 32) (s : State) : Bool := isTele h s || isImage h s

/-- is_newframe(H) (42_synchronizer.md R269). -/
def isNewframe (h : BitVec 32) (s : State) : Bool :=
  !isDiscard h && !matchesHeader h s && decide (headerLine h = 0)

/-- What a header's class depends on in this state (30_encoding.md R147). -/
def headerContext (s : State) : HeaderContext :=
  { window := inWindow s, line := s.line, probing := decide (s.st = .resyncing) }

/-- A header is due: HEADER or PROBE is the enabled step but for the transport's answer (42_synchronizer.md R260). -/
def headerDue (s : State) : Bool :=
  match s.st with
  | .idle => false
  | .preflight => false
  | .syncing => s.syncDone
  | .streaming => decide (s.pend = .none)
  | .resyncing => decide (s.probe.toNat < Config.probeLimit)

/-- The header stands next in the stream: the transport has answered its four bytes (00_scope.md R14;
30_encoding.md R141). -/
def headerStands (h : BitVec 32) (s : State) : Bool := decide (s.stream.take Config.hdrBytes = headerBytes h)

/-- The select vector E (30_encoding.md R155). -/
def selectVector (s : State) : BitVec 6 :=
  stateCode s.st ++ bit s.syncDone ++ bit (decide (s.pend ≠ .none)) ++
    bit (decide (s.probe.toNat = Config.probeLimit))

/-- The offset of a host address in a window (41_host_interface.md R221, R222). -/
def windowOffset (base a : Word) : Nat := (a - base).toNat

/-- Telemetry buffer word k (45_telemetry_decoder.md R361). -/
def teleWord (s : State) (k : Nat) : Word := ramWord .tel s (2 * k)

/-- The buffer word of a payload position of TELE_LAYOUT: words 0 and 1 are the header (45_telemetry_decoder.md
R361, R364). -/
def bufferWord (p : Nat) : Nat := p + 2

/-- dw(k): the 32-bit field of words k and k+1 (45_telemetry_decoder.md R361). -/
def teleDword (l : TeleLayout) (s : State) (k : Nat) : BitVec 32 :=
  match l.order32 with
  | .lswFirst => teleWord s (k + 1) ++ teleWord s k
  | .mswFirst => teleWord s k ++ teleWord s (k + 1)

/-- The low half of a 32-bit field. -/
def lowHalf (v : BitVec 32) : Word := v.extractLsb' 0 16

/-- The high half of a 32-bit field. -/
def highHalf (v : BitVec 32) : Word := v.extractLsb' 16 16

/-- The high byte of a word, zero-extended. -/
def highByte (v : Word) : Word := (v.extractLsb' 8 8).setWidth 16

/-- The low byte of a word, zero-extended. -/
def lowByte (v : Word) : Word := (v.extractLsb' 0 8).setWidth 16

/-- The major revision (45_telemetry_decoder.md R365). -/
def fieldRevMajor (l : TeleLayout) (s : State) : Word :=
  let w := teleWord s (bufferWord l.rev)
  if l.revMajorHi then highByte w else lowByte w

/-- The minor revision (45_telemetry_decoder.md R366). -/
def fieldRevMinor (l : TeleLayout) (s : State) : Word :=
  let w := teleWord s (bufferWord l.rev)
  if l.revMajorHi then lowByte w else highByte w

/-- The camera uptime (45_telemetry_decoder.md R367, R368). -/
def fieldUptime (l : TeleLayout) (s : State) : BitVec 32 := teleDword l s (bufferWord l.uptime)

/-- T_FLAGS: shutdown imminent, AGC enabled, the 2-bit FFC state, FFC desired (45_telemetry_decoder.md R369). -/
def fieldFlags (l : TeleLayout) (s : State) : Word :=
  let w := teleDword l s (bufferWord l.status)
  0#11 ++ bit (w.getLsbD l.shutdown) ++ bit (w.getLsbD l.agc) ++ w.extractLsb' l.ffcState 2 ++
    bit (w.getLsbD l.ffcDesired)

/-- Serial number word n (45_telemetry_decoder.md R370 to R377). -/
def fieldSerial (l : TeleLayout) (s : State) (n : Nat) : Word := teleWord s (bufferWord l.serial + n)

/-- Software revision word n (45_telemetry_decoder.md R378 to R381). -/
def fieldSwrev (l : TeleLayout) (s : State) (n : Nat) : Word := teleWord s (bufferWord l.swrev + n)

/-- The frame counter (45_telemetry_decoder.md R382, R383). -/
def fieldFrameCnt (l : TeleLayout) (s : State) : BitVec 32 := teleDword l s (bufferWord l.frameCnt)

/-- AGC region word n: top, left, bottom, right (45_telemetry_decoder.md R389 to R392). -/
def fieldRoi (l : TeleLayout) (s : State) (n : Nat) : Word := teleWord s (bufferWord l.roi + n)

/-- A one-word field at a payload position of the layout (45_telemetry_decoder.md R384 to R388, R393 to R395). -/
def fieldWord (s : State) (p : Nat) : Word := teleWord s (bufferWord p)

end Sys2Proof.Machine
end

