-- ==== Sys2Proof/Machine/Ops.lean ====
section
/-! DEFINITION. The shared operations: answering a host access, taking a bus error and acknowledging it, ending a
capture, reading the stream, and what the transport and the reset input do. -/

namespace Sys2Proof.Machine

/-! ## Host responses and bus errors -/

/-- A read that does not raise: OKAY with rdata (00_scope.md R15; 30_encoding.md R150). -/
def answer (v : Word) (s : State) : Out := .next { s with response := some { resp := .okay, rdata := v } }

/-- A write that does not raise: OKAY, and a write's rdata is 0x0000 (30_encoding.md R150). -/
def accept (s : State) : Out := answer 0 s

/-- The causes of a bus error (60_exceptions.md R405). -/
inductive BusError where
  | misaligned | unmapped | readOnly | locked | unavailable | outOfRange | notReady | illegalValue
  deriving DecidableEq, Repr

/-- The code of a cause (60_exceptions.md R405). -/
def causeCode (c : BusError) : BitVec 4 :=
  match c with
  | .misaligned => 1
  | .unmapped => 2
  | .readOnly => 3
  | .locked => 4
  | .unavailable => 5
  | .outOfRange => 6
  | .notReady => 7
  | .illegalValue => 8

/-- raise BusError(c) on an access to address a: the block's one exception entry. ERR with rdata 0, the cause and the
address recorded, EVENTS.BUSERR set, nothing else (60_exceptions.md R405). -/
def raiseBusError (c : BusError) (a : Word) (s : State) : Out :=
  .next (setEvent eventBusErr
    { s with response := some { resp := .err, rdata := 0 }, busErrCause := causeCode c, busErrAddr := a })

/-- The host's acknowledgement, which stands where a return from exception would: W1C of EVENTS, with no change of
cause or address (41_host_interface.md R209; 60_exceptions.md R412; 10_state.md R49). -/
def acknowledge (mask : BitVec 3) (s : State) : State := { s with events := s.events &&& ~~~mask }

/-! ## The capture's bracket and its end -/

/-- Acquire(): the exclusive transport bracket opens (42_synchronizer.md R264). -/
def acquire (s : State) : State := { s with busHeld := true }

/-- Release(), where the bracket is open (42_synchronizer.md R286). -/
def release (s : State) : State := { s with busHeld := false }

/-- terminate(code): ends the capture; the counters and hdr stay (42_synchronizer.md R286; 60_exceptions.md R409). -/
def terminate (code : Result) (s : State) : State :=
  release (setEvent eventDone
    { s with result := code, frameValid := decide (code = .done), st := .idle, pend := .none, syncDone := false })

/-! ## The stream and the transport -/

/-- StreamRead(n): the next n bytes, consumed; none while the transport has not answered with as many
(00_scope.md R14; 20_memory.md R102; log 7). -/
def streamRead (n : Nat) (s : State) : Option (List Byte × State) :=
  if n ≤ s.stream.length then some (s.stream.take n, { s with stream := s.stream.drop n }) else none

/-- A step that is not enabled: the engine waits (42_synchronizer.md R260; 93_implementation_defined.md I4; log 10). -/
def waiting (s : State) : Out := .next s

/-- The transport delivers stream bytes (20_memory.md R108; log 7). -/
def deliver (bytes : List Byte) (s : State) : State := { s with stream := s.stream ++ bytes }

/-- The transport reports the sync pulse done, where one is requested (42_synchronizer.md R265; log 8). -/
def reportPulse (s : State) : State :=
  { s with pulseDone := s.pulseDone || (decide (s.st = .syncing) && !s.syncDone) }

/-- The block reset: every piece of state at its value of 10_state.md R75 in one event, the pending stream read
dropped, other unknown RAM bytes (70_reset_and_hazards.md R440; log 9). -/
def blockReset (s : State) : State := { State.reset with inputs := s.inputs, epoch := s.epoch + 1 }

end Sys2Proof.Machine
end

