-- ==== Sys2Proof/Machine/BusErrors.lean ====
section
/-! DEFINITION. The meanings of the accesses that always raise: a write of a decoded telemetry register, an unmapped
and an odd address (41_host_interface.md R231 to R233). -/

namespace Sys2Proof.Machine

/-- WR_TFIELD_RO (41_host_interface.md R231). -/
def execWrTfieldRo (a : Word) (s : State) : Out := raiseBusError .readOnly a s

/-- ACC_UNMAPPED, read or write (41_host_interface.md R232). -/
def execAccUnmapped (x : Access) (s : State) : Out := raiseBusError .unmapped x.addr s

/-- ACC_MISALIGNED, read or write (41_host_interface.md R233). -/
def execAccMisaligned (x : Access) (s : State) : Out := raiseBusError .misaligned x.addr s

end Sys2Proof.Machine
end

