-- ==== Sys2Proof/Machine/ControlReads.lean ====
section
/-! DEFINITION. The meanings of the reads of control and status registers (41_host_interface.md R201 to R229). None
raises; each changes only the response (20_memory.md R114). -/

namespace Sys2Proof.Machine

/-- RD_CTRL (41_host_interface.md R201). -/
def execRdCtrl (s : State) : Out := answer 0x0000 s

/-- RD_MODE (41_host_interface.md R204). -/
def execRdMode (s : State) : Out := answer ((modeCode s.mode).setWidth 16) s

/-- RD_PREFLIGHT (41_host_interface.md R206). -/
def execRdPreflight (s : State) : Out := answer (s.preflight.setWidth 16) s

/-- RD_STATUS (41_host_interface.md R207). -/
def execRdStatus (s : State) : Out := answer (statusWord s) s

/-- RD_EVENTS (41_host_interface.md R208). -/
def execRdEvents (s : State) : Out := answer (s.events.setWidth 16) s

/-- RD_IRQ_EN (41_host_interface.md R210). -/
def execRdIrqEn (s : State) : Out := answer (s.irqEn.setWidth 16) s

/-- RD_SKIP_COUNT (41_host_interface.md R212). -/
def execRdSkipCount (s : State) : Out := answer (s.skip.setWidth 16) s

/-- RD_PROBE_COUNT (41_host_interface.md R213). -/
def execRdProbeCount (s : State) : Out := answer (s.probe.setWidth 16) s

/-- RD_LINE (41_host_interface.md R214). -/
def execRdLine (s : State) : Out := answer (s.line.setWidth 16) s

/-- RD_OUT_ROW (41_host_interface.md R215). -/
def execRdOutRow (s : State) : Out := answer (s.outRow.setWidth 16) s

/-- RD_TELE_COUNT (41_host_interface.md R216). -/
def execRdTeleCount (s : State) : Out := answer (s.tele.setWidth 16) s

/-- RD_LAST_HDR_ID (41_host_interface.md R217). -/
def execRdLastHdrId (s : State) : Out := answer (headerId s.hdr) s

/-- RD_LAST_HDR_CRC (41_host_interface.md R218). -/
def execRdLastHdrCrc (s : State) : Out := answer (headerCrc s.hdr) s

/-- RD_BUSERR_CAUSE (41_host_interface.md R219). -/
def execRdBuserrCause (s : State) : Out := answer (s.busErrCause.setWidth 16) s

/-- RD_BUSERR_ADDR (41_host_interface.md R220). -/
def execRdBuserrAddr (s : State) : Out := answer s.busErrAddr s

/-- RD_GEOM_W (41_host_interface.md R224). -/
def execRdGeomW (s : State) : Out := answer (BitVec.ofNat 16 (width s.mode)) s

/-- RD_GEOM_H (41_host_interface.md R225). -/
def execRdGeomH (s : State) : Out := answer (BitVec.ofNat 16 (height s.mode)) s

/-- RD_GEOM_BPP (41_host_interface.md R226). -/
def execRdGeomBpp (s : State) : Out := answer (BitVec.ofNat 16 (bpp s.mode)) s

/-- RD_GEOM_PITCH (41_host_interface.md R227). -/
def execRdGeomPitch (s : State) : Out := answer (BitVec.ofNat 16 (pitch s.mode)) s

/-- RD_GEOM_TOTAL (41_host_interface.md R228). -/
def execRdGeomTotal (s : State) : Out := answer (BitVec.ofNat 16 (total s.mode)) s

/-- RD_GEOM_LPB (41_host_interface.md R229). -/
def execRdGeomLpb (s : State) : Out := answer (BitVec.ofNat 16 (lpb s.mode)) s

end Sys2Proof.Machine
end

