-- ==== Sys2Proof/Machine/Capture.lean ====
section
/-! DEFINITION. The capture engine's operations (42_synchronizer.md): start, the telemetry buffer, accepting headers,
resynchronization, frame skips and completion. -/

namespace Sys2Proof.Machine

/-- An accepted START (41_host_interface.md R200). -/
def startCapture (s : State) : State :=
  { s with
    st := .preflight, frameValid := false, line := 0, outRow := 0, tele := 0, skip := 0, probe := 0,
    pend := .none, syncDone := false }

/-- n bytes 0x00. -/
def zeroBytes (n : Nat) : List Byte := List.replicate n 0

/-- TelemetryBufferMatch(): allocates with the sentinel or frees the telemetry buffer to match TELE_EN
(42_synchronizer.md R263). -/
def telemetryBufferMatch (s : State) : Out :=
  if teleEn s ∧ ¬s.tbufAlloc then
    andThen (memWrite .tel 0 [Config.teleSentinel] { s with tbufAlloc := true })
      (memWrite .tel 1 (zeroBytes (Config.telRamBytes - 1)))
  else if ¬teleEn s ∧ s.tbufAlloc then .next { s with tbufAlloc := false }
  else .next s

/-- EnterSyncing(): takes the transport and asks for the sync pulse (42_synchronizer.md R264). -/
def enterSyncing (s : State) : State :=
  { acquire s with st := .syncing, syncDone := false, pulseDone := false }

/-- AcceptTelemetry(): sub-packet 0 is stored, 1 and 2 are dropped (42_synchronizer.md R271). -/
def acceptTelemetry (s : State) : State := { s with pend := if s.tele = 0 then .telStore else .telDrop }

/-- AcceptImage() (42_synchronizer.md R272). -/
def acceptImage (s : State) : State := { s with pend := .img }

/-- The engine goes on streaming. -/
def toStreaming (s : State) : State := { s with st := .streaming }

/-- Accepts a header that matches, as telemetry or as an image line (42_synchronizer.md R282, R285). -/
def acceptMatch (h : BitVec 32) (s : State) : State :=
  if isTele h s then acceptTelemetry (toStreaming s) else acceptImage (toStreaming s)

/-- OutOfSync(): a resynchronization episode begins (42_synchronizer.md R273). -/
def outOfSync (s : State) : State := { s with st := .resyncing, probe := 0 }

/-- RestartFrame(): the frame pass starts again and the header is classified under the reset counters
(42_synchronizer.md R285). -/
def restartFrame (h : BitVec 32) (s : State) : State := acceptMatch h { s with line := 0, outRow := 0, tele := 0 }

/-- NewFrame(): one frame skipped; the fifth ends the capture (42_synchronizer.md R283, R284). -/
def newFrame (h : BitVec 32) (s : State) : State :=
  let s1 := { s with skip := s.skip + 1 }
  if s1.skip.toNat = Config.skipLimit then terminate .frameSkipLimit s1 else restartFrame h s1

/-- A header that matches nothing: it starts an episode, or is a probe without a match (42_synchronizer.md R273,
R281). -/
def noMatch (s : State) : State :=
  match s.st with
  | .resyncing => s
  | _ => outOfSync s

/-- The header register takes a header read from the stream; a HEADER step clears sync_done (42_synchronizer.md
R270). -/
def latchHeader (h : BitVec 32) (s : State) : State := { s with hdr := h, syncDone := false }

/-- The header register takes a probe, which counts (42_synchronizer.md R281). -/
def latchProbe (h : BitVec 32) (s : State) : State := { s with hdr := h, probe := s.probe + 1 }

/-- Both row targets are met (42_synchronizer.md R278). -/
def targetsMet (s : State) : Bool :=
  decide (s.outRow.toNat = height s.mode) && (!teleEn s || decide (s.tele = 3))

/-- CheckComplete() (42_synchronizer.md R278). -/
def checkComplete (s : State) : State := if targetsMet s then terminate .done s else s

end Sys2Proof.Machine
end

