-- ==== Sys2Proof/Machine/ControlWrites.lean ====
section
/-! DEFINITION. The meanings of the writes of control registers (41_host_interface.md R200, R203, R205, R209, R211). -/

namespace Sys2Proof.Machine

/-- WR_CTRL: START, ignored and flagged while a capture runs (41_host_interface.md R200; 20_memory.md R123). -/
def execWrCtrl (d : Word) (s : State) : Out :=
  if ¬d.getLsbD 0 then accept s
  else if busy s then accept (setEvent eventStartIgnored s)
  else accept (startCapture s)

/-- WR_MODE (41_host_interface.md R202, R203). -/
def execWrMode (d : Word) (s : State) : Out :=
  if busy s then raiseBusError .locked 0x0002 s
  else match modeOf (d.extractLsb' 0 3) with
    | none => raiseBusError .illegalValue 0x0002 s
    | some m => accept { s with mode := m, frameValid := s.frameValid && decide (m = s.mode) }

/-- WR_PREFLIGHT (41_host_interface.md R202, R205). -/
def execWrPreflight (d : Word) (s : State) : Out :=
  if busy s then raiseBusError .locked 0x0004 s else accept { s with preflight := d.extractLsb' 0 4 }

/-- WR_EVENTS: 1 clears, 0 keeps (41_host_interface.md R209). -/
def execWrEvents (d : Word) (s : State) : Out := accept (acknowledge (d.extractLsb' 0 3) s)

/-- WR_IRQ_EN (41_host_interface.md R211). -/
def execWrIrqEn (d : Word) (s : State) : Out := accept { s with irqEn := d.extractLsb' 0 3 }

end Sys2Proof.Machine
end

