-- ==== Sys2Proof/Machine/Downsampler.lean ====
section
/-! DEFINITION. The box-filter downsampler (44_downsampler.md). -/

namespace Sys2Proof.Machine

/-- Raw sample x of the line in scratch slot i, the whole 16-bit word (40_geometry.md R190; 44_downsampler.md R342). -/
def slotSample (s : State) (i x : Nat) : Nat := (ramWord .scr s (slotOffset i + Config.hdrBytes + 2 * x)).toNat

/-- The sum of the l × l raw samples of output column c (44_downsampler.md R341, R343). -/
def blockSum (s : State) (l c : Nat) : Nat :=
  ((List.range l).map fun i => ((List.range l).map fun j => slotSample s i (c * l + j)).sum).sum

/-- The clamp ceiling of a pixel width (44_downsampler.md R346). -/
def clampMax (b : Nat) : Nat := if b = 2 then Config.max16 else Config.max8

/-- The pixel of a block sum: average, 8-bit rescale, clamp (44_downsampler.md R344 to R346). -/
def pixelOf (b l : Nat) (agc : Bool) (sum : Nat) : Nat :=
  let avg := sum / (l * l)
  let v := if b = 1 ∧ ¬agc then avg / Config.agc8Div else avg
  min v (clampMax b)

/-- The bytes of a pixel: two big-endian, or one (44_downsampler.md R347). -/
def pixelBytes (b v : Nat) : List Byte :=
  if b = 2 then [BitVec.ofNat 8 (v / 256), BitVec.ofNat 8 v] else [BitVec.ofNat 8 v]

/-- Output pixel c of the band in the scratch slots. -/
def bandPixel (s : State) (c : Nat) : Nat :=
  pixelOf (bpp s.mode) (lpb s.mode) (agc8 s) (blockSum s (lpb s.mode) c)

/-- The width · bpp bytes of the output row of the band in the scratch slots. -/
def bandBytes (s : State) : List Byte :=
  (List.range (width s.mode)).flatMap fun c => pixelBytes (bpp s.mode) (bandPixel s c)

/-- DownsampleRow(r): stores one output row, without its pad bytes (44_downsampler.md R340, R341, R348). -/
def downsampleRow (r : Nat) (s : State) : Out := memWrite .img (rowOffset s.mode r) (bandBytes s) s

end Sys2Proof.Machine
end

