-- ==== Sys2Proof/Machine/Reassembly.lean ====
section
/-! DEFINITION. The frame reassembly buffer controller (43_reassembly.md): where an accepted payload goes. -/

namespace Sys2Proof.Machine

/-- A line accepted: line advances (42_synchronizer.md R276). -/
def advanceLine (s : State) : State := { s with line := s.line + 1 }

/-- A band complete: out_row advances (42_synchronizer.md R276). -/
def advanceRow (s : State) : State := { s with outRow := s.outRow + 1 }

/-- A telemetry sub-packet accepted: tele advances (42_synchronizer.md R277). -/
def advanceTele (s : State) : State := { s with tele := s.tele + 1 }

/-- StoreImageLine on the direct path, MODE 0 (43_reassembly.md R311). -/
def storeDirect (pay : List Byte) (s : State) : Out :=
  andThen (memWrite .img (rowOffset s.mode s.line.toNat) pay s) fun t => .next (advanceRow (advanceLine t))

/-- The scratch slot of the expected line (43_reassembly.md R312, R315). -/
def slotOf (s : State) : Nat := s.line.toNat % lpb s.mode

/-- The packet's header and payload go to the slot of the expected line (43_reassembly.md R312). -/
def storeSlot (pay : List Byte) (s : State) : Out :=
  andThen (memWrite .scr (slotOffset (slotOf s)) (headerBytes s.hdr) s)
    (memWrite .scr (slotOffset (slotOf s) + Config.hdrBytes) pay)

/-- Where the line just stored completes its band, one output row is made (43_reassembly.md R312, R313). -/
def completeBand (s : State) : Out :=
  if slotOf s = lpb s.mode - 1 then
    andThen (downsampleRow (s.line.toNat / lpb s.mode) s) fun t => .next (advanceRow t)
  else .next s

/-- StoreImageLine on the scratch path, MODE other than 0 (43_reassembly.md R312). -/
def storeScratch (pay : List Byte) (s : State) : Out :=
  andThen (storeSlot pay s) fun t => andThen (completeBand t) fun u => .next (advanceLine u)

/-- StoreImageLine (43_reassembly.md R311, R312). -/
def storeImageLine (pay : List Byte) (s : State) : Out :=
  if direct s.mode then storeDirect pay s else storeScratch pay s

/-- StoreTelemetry: sub-packet 0, header and payload, fills TEL (43_reassembly.md R318). -/
def storeTelemetry (pay : List Byte) (s : State) : Out :=
  andThen (memWrite .tel 0 (headerBytes s.hdr) s) fun t =>
    andThen (memWrite .tel Config.hdrBytes pay t) fun u => .next (advanceTele u)

/-- The payload of an accepted packet goes where `pend` says (42_synchronizer.md R275; 43_reassembly.md R319). -/
def storePayload (pay : List Byte) (s : State) : Out :=
  match s.pend with
  | .none => .next s
  | .img => storeImageLine pay s
  | .telStore => storeTelemetry pay s
  | .telDrop => .next (advanceTele s)

/-- The payload read is done: nothing is owed, and the targets are tested (42_synchronizer.md R275, R278). -/
def finishPayload (s : State) : State := checkComplete { s with pend := .none }

end Sys2Proof.Machine
end

