-- ==== Sys2Proof/Machine/EngineSteps.lean ====
section
/-! DEFINITION. The meanings of the engine_step rows (42_synchronizer.md R260 to R285). A step that is not enabled
waits (log 10). -/

namespace Sys2Proof.Machine

/-- STEP_PREFLIGHT (42_synchronizer.md R261). -/
def execStepPreflight (s : State) : Out :=
  if s.st = .preflight then
    if booted s then andThen (telemetryBufferMatch s) fun t => .next (enterSyncing t)
    else .next (terminate .notBooted s)
  else waiting s

/-- STEP_SYNC (42_synchronizer.md R265). -/
def execStepSync (s : State) : Out :=
  if s.st = .syncing ∧ ¬s.syncDone ∧ s.pulseDone then .next { s with syncDone := true, pulseDone := false }
  else waiting s

/-- What a HEADER step does with the header it has read (42_synchronizer.md R270). -/
def classifyHeader (h : BitVec 32) (s : State) : State :=
  if isTele h s then acceptTelemetry (toStreaming s)
  else if isImage h s then acceptImage (toStreaming s)
  else outOfSync s

/-- The HEADER step's body (42_synchronizer.md R270). -/
def headerStep (s : State) : Out :=
  match streamRead Config.hdrBytes s with
  | none => waiting s
  | some (bytes, t) => .next (classifyHeader (headerOf bytes) (latchHeader (headerOf bytes) t))

/-- STEP_HEADER_SYNCING: HEADER as the first read after the pulse (42_synchronizer.md R270, R274). -/
def execStepHeaderSyncing (s : State) : Out :=
  if s.st = .syncing ∧ s.syncDone then headerStep s else waiting s

/-- STEP_HEADER_STREAMING: HEADER with no payload owed (42_synchronizer.md R270). -/
def execStepHeaderStreaming (s : State) : Out :=
  if s.st = .streaming ∧ s.pend = .none then headerStep s else waiting s

/-- STEP_PAYLOAD (42_synchronizer.md R275; 43_reassembly.md R310). -/
def execStepPayload (s : State) : Out :=
  if s.st = .streaming ∧ s.pend ≠ .none then
    match streamRead Config.payBytes s with
    | none => waiting s
    | some (pay, t) => andThen (storePayload pay t) fun u => .next (finishPayload u)
  else waiting s

/-- What a PROBE step does with the header it has read (42_synchronizer.md R281, R282, R283). -/
def classifyProbe (h : BitVec 32) (s : State) : State :=
  if matchesHeader h s then acceptMatch h s
  else if isNewframe h s then newFrame h s
  else s

/-- STEP_PROBE (42_synchronizer.md R281). -/
def execStepProbe (s : State) : Out :=
  if s.st = .resyncing ∧ s.probe.toNat < Config.probeLimit then
    match streamRead Config.hdrBytes s with
    | none => waiting s
    | some (bytes, t) => .next (classifyProbe (headerOf bytes) (latchProbe (headerOf bytes) t))
  else waiting s

/-- STEP_EXHAUST (42_synchronizer.md R280). -/
def execStepExhaust (s : State) : Out :=
  if s.st = .resyncing ∧ s.probe.toNat = Config.probeLimit then .next (terminate .resyncExhausted s)
  else waiting s

end Sys2Proof.Machine
end

