-- ==== Sys2Proof/Machine/Headers.lean ====
section
/-! DEFINITION. The meanings of the vospi_header rows (30_encoding.md R147; 42_synchronizer.md R266 to R273, R281 to
R285): a header H taken from the stream where one is due, in the class its row names. Where none is due, H is not what
stands next in the stream, or H is not of that class in this state, the engine waits (log 10, log 11). -/

namespace Sys2Proof.Machine

/-- The header is consumed from the stream and latched, by a PROBE while RESYNCING, else by a HEADER step. -/
def takeHeader (h : BitVec 32) (s : State) : State :=
  let t := { s with stream := s.stream.drop Config.hdrBytes }
  match s.st with
  | .resyncing => latchProbe h t
  | _ => latchHeader h t

/-- The header is due, has arrived and is of the class. -/
def headerEnabled (k : HeaderClass) (h : BitVec 32) (s : State) : Bool :=
  headerDue s && headerStands h s && decide (headerClass (headerContext s) h = k)

/-- HDR_DISCARD: out of sync when streaming, no match when probing (30_encoding.md R145; 42_synchronizer.md R273,
R281). -/
def execHdrDiscard (h : BitVec 32) (s : State) : Out :=
  if headerEnabled .discard h s then .next (noMatch (takeHeader h s)) else waiting s

/-- HDR_TELEMETRY: a telemetry sub-packet is accepted (42_synchronizer.md R267, R271, R282). -/
def execHdrTelemetry (h : BitVec 32) (s : State) : Out :=
  if headerEnabled .telemetry h s then .next (acceptTelemetry (toStreaming (takeHeader h s))) else waiting s

/-- HDR_IMAGE: the expected raw line is accepted (42_synchronizer.md R268, R272, R282). -/
def execHdrImage (h : BitVec 32) (s : State) : Out :=
  if headerEnabled .image h s then .next (acceptImage (toStreaming (takeHeader h s))) else waiting s

/-- HDR_NEWFRAME: a probe finds the start of a new frame (42_synchronizer.md R269, R283 to R285). -/
def execHdrNewframe (h : BitVec 32) (s : State) : Out :=
  if headerEnabled .newframe h s then .next (newFrame h (takeHeader h s)) else waiting s

/-- HDR_OUT_OF_SYNC: starts a resynchronization, or is a probe without a match (42_synchronizer.md R273, R281). -/
def execHdrOutOfSync (h : BitVec 32) (s : State) : Out :=
  if headerEnabled .outOfSync h s then .next (noMatch (takeHeader h s)) else waiting s

end Sys2Proof.Machine
end

