-- ==== Sys2Proof/Machine/ReadOnly.lean ====
section
/-! DEFINITION. The meanings of the writes of read-only registers: each raises READ_ONLY at its register's address,
whatever the data (41_host_interface.md R230). -/

namespace Sys2Proof.Machine

/-- WR_STATUS_RO. -/
def execWrStatusRo (s : State) : Out := raiseBusError .readOnly 0x0006 s

/-- WR_SKIP_COUNT_RO. -/
def execWrSkipCountRo (s : State) : Out := raiseBusError .readOnly 0x000C s

/-- WR_PROBE_COUNT_RO. -/
def execWrProbeCountRo (s : State) : Out := raiseBusError .readOnly 0x000E s

/-- WR_LINE_RO. -/
def execWrLineRo (s : State) : Out := raiseBusError .readOnly 0x0010 s

/-- WR_OUT_ROW_RO. -/
def execWrOutRowRo (s : State) : Out := raiseBusError .readOnly 0x0012 s

/-- WR_TELE_COUNT_RO. -/
def execWrTeleCountRo (s : State) : Out := raiseBusError .readOnly 0x0014 s

/-- WR_LAST_HDR_ID_RO. -/
def execWrLastHdrIdRo (s : State) : Out := raiseBusError .readOnly 0x0016 s

/-- WR_LAST_HDR_CRC_RO. -/
def execWrLastHdrCrcRo (s : State) : Out := raiseBusError .readOnly 0x0018 s

/-- WR_BUSERR_CAUSE_RO. -/
def execWrBuserrCauseRo (s : State) : Out := raiseBusError .readOnly 0x001A s

/-- WR_BUSERR_ADDR_RO. -/
def execWrBuserrAddrRo (s : State) : Out := raiseBusError .readOnly 0x001C s

/-- WR_GEOM_W_RO. -/
def execWrGeomWRo (s : State) : Out := raiseBusError .readOnly 0x001E s

/-- WR_GEOM_H_RO. -/
def execWrGeomHRo (s : State) : Out := raiseBusError .readOnly 0x0020 s

/-- WR_GEOM_BPP_RO. -/
def execWrGeomBppRo (s : State) : Out := raiseBusError .readOnly 0x0022 s

/-- WR_GEOM_PITCH_RO. -/
def execWrGeomPitchRo (s : State) : Out := raiseBusError .readOnly 0x0024 s

/-- WR_GEOM_TOTAL_RO. -/
def execWrGeomTotalRo (s : State) : Out := raiseBusError .readOnly 0x0026 s

/-- WR_GEOM_LPB_RO. -/
def execWrGeomLpbRo (s : State) : Out := raiseBusError .readOnly 0x0028 s

end Sys2Proof.Machine
end

