-- ==== Sys2Proof/Machine/TelemetryReads.lean ====
section
/-! DEFINITION. The meanings of the reads of decoded telemetry registers (41_host_interface.md R223;
45_telemetry_decoder.md R365 to R395), each a combinational view of TEL through TELE_LAYOUT. -/

namespace Sys2Proof.Machine

/-- The read of a decoded register: the checks of 41_host_interface.md R223 in their order, then its value. -/
def readTelemetry (a v : Word) (s : State) : Out :=
  if busy s then raiseBusError .unavailable a s
  else if ¬s.tbufAlloc then raiseBusError .unavailable a s
  else if sentinel s then raiseBusError .notReady a s
  else answer v s

/-- RD_T_REV_MAJOR (45_telemetry_decoder.md R365). -/
def execRdTRevMajor (s : State) : Out := readTelemetry 0x0100 (fieldRevMajor Config.teleLayout s) s

/-- RD_T_REV_MINOR (45_telemetry_decoder.md R366). -/
def execRdTRevMinor (s : State) : Out := readTelemetry 0x0102 (fieldRevMinor Config.teleLayout s) s

/-- RD_T_UPTIME_LO (45_telemetry_decoder.md R367). -/
def execRdTUptimeLo (s : State) : Out := readTelemetry 0x0104 (lowHalf (fieldUptime Config.teleLayout s)) s

/-- RD_T_UPTIME_HI (45_telemetry_decoder.md R368). -/
def execRdTUptimeHi (s : State) : Out := readTelemetry 0x0106 (highHalf (fieldUptime Config.teleLayout s)) s

/-- RD_T_FLAGS (45_telemetry_decoder.md R369). -/
def execRdTFlags (s : State) : Out := readTelemetry 0x0108 (fieldFlags Config.teleLayout s) s

/-- RD_T_SERIAL0 (45_telemetry_decoder.md R370). -/
def execRdTSerial0 (s : State) : Out := readTelemetry 0x010A (fieldSerial Config.teleLayout s 0) s

/-- RD_T_SERIAL1 (45_telemetry_decoder.md R371). -/
def execRdTSerial1 (s : State) : Out := readTelemetry 0x010C (fieldSerial Config.teleLayout s 1) s

/-- RD_T_SERIAL2 (45_telemetry_decoder.md R372). -/
def execRdTSerial2 (s : State) : Out := readTelemetry 0x010E (fieldSerial Config.teleLayout s 2) s

/-- RD_T_SERIAL3 (45_telemetry_decoder.md R373). -/
def execRdTSerial3 (s : State) : Out := readTelemetry 0x0110 (fieldSerial Config.teleLayout s 3) s

/-- RD_T_SERIAL4 (45_telemetry_decoder.md R374). -/
def execRdTSerial4 (s : State) : Out := readTelemetry 0x0112 (fieldSerial Config.teleLayout s 4) s

/-- RD_T_SERIAL5 (45_telemetry_decoder.md R375). -/
def execRdTSerial5 (s : State) : Out := readTelemetry 0x0114 (fieldSerial Config.teleLayout s 5) s

/-- RD_T_SERIAL6 (45_telemetry_decoder.md R376). -/
def execRdTSerial6 (s : State) : Out := readTelemetry 0x0116 (fieldSerial Config.teleLayout s 6) s

/-- RD_T_SERIAL7 (45_telemetry_decoder.md R377). -/
def execRdTSerial7 (s : State) : Out := readTelemetry 0x0118 (fieldSerial Config.teleLayout s 7) s

/-- RD_T_SWREV0 (45_telemetry_decoder.md R378). -/
def execRdTSwrev0 (s : State) : Out := readTelemetry 0x011A (fieldSwrev Config.teleLayout s 0) s

/-- RD_T_SWREV1 (45_telemetry_decoder.md R379). -/
def execRdTSwrev1 (s : State) : Out := readTelemetry 0x011C (fieldSwrev Config.teleLayout s 1) s

/-- RD_T_SWREV2 (45_telemetry_decoder.md R380). -/
def execRdTSwrev2 (s : State) : Out := readTelemetry 0x011E (fieldSwrev Config.teleLayout s 2) s

/-- RD_T_SWREV3 (45_telemetry_decoder.md R381). -/
def execRdTSwrev3 (s : State) : Out := readTelemetry 0x0120 (fieldSwrev Config.teleLayout s 3) s

/-- RD_T_FRAMECNT_LO (45_telemetry_decoder.md R382). -/
def execRdTFramecntLo (s : State) : Out := readTelemetry 0x0122 (lowHalf (fieldFrameCnt Config.teleLayout s)) s

/-- RD_T_FRAMECNT_HI (45_telemetry_decoder.md R383). -/
def execRdTFramecntHi (s : State) : Out := readTelemetry 0x0124 (highHalf (fieldFrameCnt Config.teleLayout s)) s

/-- RD_T_FRAME_MEAN (45_telemetry_decoder.md R384). -/
def execRdTFrameMean (s : State) : Out := readTelemetry 0x0126 (fieldWord s Config.teleLayout.mean) s

/-- RD_T_FPA_TEMP (45_telemetry_decoder.md R385). -/
def execRdTFpaTemp (s : State) : Out := readTelemetry 0x0128 (fieldWord s Config.teleLayout.fpa) s

/-- RD_T_FPA_TEMP_FFC (45_telemetry_decoder.md R386). -/
def execRdTFpaTempFfc (s : State) : Out := readTelemetry 0x012A (fieldWord s Config.teleLayout.fpaFfc) s

/-- RD_T_HOUS_TEMP (45_telemetry_decoder.md R387). -/
def execRdTHousTemp (s : State) : Out := readTelemetry 0x012C (fieldWord s Config.teleLayout.hous) s

/-- RD_T_HOUS_TEMP_FFC (45_telemetry_decoder.md R388). -/
def execRdTHousTempFfc (s : State) : Out := readTelemetry 0x012E (fieldWord s Config.teleLayout.housFfc) s

/-- RD_T_ROI_TOP (45_telemetry_decoder.md R389). -/
def execRdTRoiTop (s : State) : Out := readTelemetry 0x0130 (fieldRoi Config.teleLayout s 0) s

/-- RD_T_ROI_LEFT (45_telemetry_decoder.md R390). -/
def execRdTRoiLeft (s : State) : Out := readTelemetry 0x0132 (fieldRoi Config.teleLayout s 1) s

/-- RD_T_ROI_BOTTOM (45_telemetry_decoder.md R391). -/
def execRdTRoiBottom (s : State) : Out := readTelemetry 0x0134 (fieldRoi Config.teleLayout s 2) s

/-- RD_T_ROI_RIGHT (45_telemetry_decoder.md R392). -/
def execRdTRoiRight (s : State) : Out := readTelemetry 0x0136 (fieldRoi Config.teleLayout s 3) s

/-- RD_T_CLIP_HI (45_telemetry_decoder.md R393). -/
def execRdTClipHi (s : State) : Out := readTelemetry 0x0138 (fieldWord s Config.teleLayout.clipHi) s

/-- RD_T_CLIP_LO (45_telemetry_decoder.md R394). -/
def execRdTClipLo (s : State) : Out := readTelemetry 0x013A (fieldWord s Config.teleLayout.clipLo) s

/-- RD_T_LOG2_FFC (45_telemetry_decoder.md R395). -/
def execRdTLog2Ffc (s : State) : Out := readTelemetry 0x013C (fieldWord s Config.teleLayout.log2Ffc) s

end Sys2Proof.Machine
end

