-- ==== Sys2Proof/Machine/Windows.lean ====
section
/-! DEFINITION. The meanings of the accesses to the IMG and TRAW windows (41_host_interface.md R221, R222, R231). -/

namespace Sys2Proof.Machine

/-- RD_IMG (41_host_interface.md R221). -/
def execRdImg (a : Word) (s : State) : Out :=
  let o := windowOffset 0x4000 a
  if busy s then raiseBusError .unavailable a s
  else if o + 1 ≥ total s.mode then raiseBusError .outOfRange a s
  else answer (ramWord .img s o) s

/-- WR_IMG_RO (41_host_interface.md R231). -/
def execWrImgRo (a : Word) (s : State) : Out := raiseBusError .readOnly a s

/-- RD_TRAW (41_host_interface.md R222). -/
def execRdTraw (a : Word) (s : State) : Out :=
  if busy s then raiseBusError .unavailable a s
  else if ¬s.tbufAlloc then raiseBusError .unavailable a s
  else answer (ramWord .tel s (windowOffset 0x0200 a)) s

/-- WR_TRAW_RO (41_host_interface.md R231). -/
def execWrTrawRo (a : Word) (s : State) : Out := raiseBusError .readOnly a s

end Sys2Proof.Machine
end

