-- ==== Sys2Proof/Machine/Dispatch.lean ====
section
/-! DEFINITION. exec: the meaning of every instruction, one arm per constructor, in the table's order. -/

namespace Sys2Proof.Machine

/-- What one instruction does to the machine's state. -/
def exec (i : Instr) (s : State) : Host.Outcome State Fault Refusal :=
  match i with
  | .hdrDiscard h => Sys2Proof.Machine.execHdrDiscard h s
  | .hdrTelemetry h => Sys2Proof.Machine.execHdrTelemetry h s
  | .hdrImage h => Sys2Proof.Machine.execHdrImage h s
  | .hdrNewframe h => Sys2Proof.Machine.execHdrNewframe h s
  | .hdrOutOfSync h => Sys2Proof.Machine.execHdrOutOfSync h s
  | .stepPreflight => Sys2Proof.Machine.execStepPreflight s
  | .stepSync => Sys2Proof.Machine.execStepSync s
  | .stepHeaderSyncing => Sys2Proof.Machine.execStepHeaderSyncing s
  | .stepHeaderStreaming => Sys2Proof.Machine.execStepHeaderStreaming s
  | .stepPayload => Sys2Proof.Machine.execStepPayload s
  | .stepProbe => Sys2Proof.Machine.execStepProbe s
  | .stepExhaust => Sys2Proof.Machine.execStepExhaust s
  | .rdCtrl => Sys2Proof.Machine.execRdCtrl s
  | .rdMode => Sys2Proof.Machine.execRdMode s
  | .rdPreflight => Sys2Proof.Machine.execRdPreflight s
  | .rdStatus => Sys2Proof.Machine.execRdStatus s
  | .rdEvents => Sys2Proof.Machine.execRdEvents s
  | .rdIrqEn => Sys2Proof.Machine.execRdIrqEn s
  | .rdSkipCount => Sys2Proof.Machine.execRdSkipCount s
  | .rdProbeCount => Sys2Proof.Machine.execRdProbeCount s
  | .rdLine => Sys2Proof.Machine.execRdLine s
  | .rdOutRow => Sys2Proof.Machine.execRdOutRow s
  | .rdTeleCount => Sys2Proof.Machine.execRdTeleCount s
  | .rdLastHdrId => Sys2Proof.Machine.execRdLastHdrId s
  | .rdLastHdrCrc => Sys2Proof.Machine.execRdLastHdrCrc s
  | .rdBuserrCause => Sys2Proof.Machine.execRdBuserrCause s
  | .rdBuserrAddr => Sys2Proof.Machine.execRdBuserrAddr s
  | .rdGeomW => Sys2Proof.Machine.execRdGeomW s
  | .rdGeomH => Sys2Proof.Machine.execRdGeomH s
  | .rdGeomBpp => Sys2Proof.Machine.execRdGeomBpp s
  | .rdGeomPitch => Sys2Proof.Machine.execRdGeomPitch s
  | .rdGeomTotal => Sys2Proof.Machine.execRdGeomTotal s
  | .rdGeomLpb => Sys2Proof.Machine.execRdGeomLpb s
  | .wrCtrl d => Sys2Proof.Machine.execWrCtrl d s
  | .wrMode d => Sys2Proof.Machine.execWrMode d s
  | .wrPreflight d => Sys2Proof.Machine.execWrPreflight d s
  | .wrEvents d => Sys2Proof.Machine.execWrEvents d s
  | .wrIrqEn d => Sys2Proof.Machine.execWrIrqEn d s
  | .wrStatusRo _ => Sys2Proof.Machine.execWrStatusRo s
  | .wrSkipCountRo _ => Sys2Proof.Machine.execWrSkipCountRo s
  | .wrProbeCountRo _ => Sys2Proof.Machine.execWrProbeCountRo s
  | .wrLineRo _ => Sys2Proof.Machine.execWrLineRo s
  | .wrOutRowRo _ => Sys2Proof.Machine.execWrOutRowRo s
  | .wrTeleCountRo _ => Sys2Proof.Machine.execWrTeleCountRo s
  | .wrLastHdrIdRo _ => Sys2Proof.Machine.execWrLastHdrIdRo s
  | .wrLastHdrCrcRo _ => Sys2Proof.Machine.execWrLastHdrCrcRo s
  | .wrBuserrCauseRo _ => Sys2Proof.Machine.execWrBuserrCauseRo s
  | .wrBuserrAddrRo _ => Sys2Proof.Machine.execWrBuserrAddrRo s
  | .wrGeomWRo _ => Sys2Proof.Machine.execWrGeomWRo s
  | .wrGeomHRo _ => Sys2Proof.Machine.execWrGeomHRo s
  | .wrGeomBppRo _ => Sys2Proof.Machine.execWrGeomBppRo s
  | .wrGeomPitchRo _ => Sys2Proof.Machine.execWrGeomPitchRo s
  | .wrGeomTotalRo _ => Sys2Proof.Machine.execWrGeomTotalRo s
  | .wrGeomLpbRo _ => Sys2Proof.Machine.execWrGeomLpbRo s
  | .rdImg a => Sys2Proof.Machine.execRdImg a s
  | .wrImgRo a _ => Sys2Proof.Machine.execWrImgRo a s
  | .rdTraw a => Sys2Proof.Machine.execRdTraw a s
  | .wrTrawRo a _ => Sys2Proof.Machine.execWrTrawRo a s
  | .rdTRevMajor => Sys2Proof.Machine.execRdTRevMajor s
  | .rdTRevMinor => Sys2Proof.Machine.execRdTRevMinor s
  | .rdTUptimeLo => Sys2Proof.Machine.execRdTUptimeLo s
  | .rdTUptimeHi => Sys2Proof.Machine.execRdTUptimeHi s
  | .rdTFlags => Sys2Proof.Machine.execRdTFlags s
  | .rdTSerial0 => Sys2Proof.Machine.execRdTSerial0 s
  | .rdTSerial1 => Sys2Proof.Machine.execRdTSerial1 s
  | .rdTSerial2 => Sys2Proof.Machine.execRdTSerial2 s
  | .rdTSerial3 => Sys2Proof.Machine.execRdTSerial3 s
  | .rdTSerial4 => Sys2Proof.Machine.execRdTSerial4 s
  | .rdTSerial5 => Sys2Proof.Machine.execRdTSerial5 s
  | .rdTSerial6 => Sys2Proof.Machine.execRdTSerial6 s
  | .rdTSerial7 => Sys2Proof.Machine.execRdTSerial7 s
  | .rdTSwrev0 => Sys2Proof.Machine.execRdTSwrev0 s
  | .rdTSwrev1 => Sys2Proof.Machine.execRdTSwrev1 s
  | .rdTSwrev2 => Sys2Proof.Machine.execRdTSwrev2 s
  | .rdTSwrev3 => Sys2Proof.Machine.execRdTSwrev3 s
  | .rdTFramecntLo => Sys2Proof.Machine.execRdTFramecntLo s
  | .rdTFramecntHi => Sys2Proof.Machine.execRdTFramecntHi s
  | .rdTFrameMean => Sys2Proof.Machine.execRdTFrameMean s
  | .rdTFpaTemp => Sys2Proof.Machine.execRdTFpaTemp s
  | .rdTFpaTempFfc => Sys2Proof.Machine.execRdTFpaTempFfc s
  | .rdTHousTemp => Sys2Proof.Machine.execRdTHousTemp s
  | .rdTHousTempFfc => Sys2Proof.Machine.execRdTHousTempFfc s
  | .rdTRoiTop => Sys2Proof.Machine.execRdTRoiTop s
  | .rdTRoiLeft => Sys2Proof.Machine.execRdTRoiLeft s
  | .rdTRoiBottom => Sys2Proof.Machine.execRdTRoiBottom s
  | .rdTRoiRight => Sys2Proof.Machine.execRdTRoiRight s
  | .rdTClipHi => Sys2Proof.Machine.execRdTClipHi s
  | .rdTClipLo => Sys2Proof.Machine.execRdTClipLo s
  | .rdTLog2Ffc => Sys2Proof.Machine.execRdTLog2Ffc s
  | .wrTfieldRo a _ => Sys2Proof.Machine.execWrTfieldRo a s
  | .accUnmapped x => Sys2Proof.Machine.execAccUnmapped x s
  | .accMisaligned x => Sys2Proof.Machine.execAccMisaligned x s

end Sys2Proof.Machine
end

