-- ==== Sys2Proof/Machine/Fetch.lean ====
section
/-! DEFINITION. Fetching: what a move of the environment gives the decoder, what the transport and the reset input do,
and how a table word is placed where the next step fetches it. -/

namespace Sys2Proof.Machine

/-- The port and bytes a move hands the decoder: a host transaction; the engine's select vector; the four bytes that
stand next in the stream. None for a move that is no instruction, or a header the transport has not answered yet. -/
def fetchBytes (x : Input) (s : State) : Option (Port × List Byte) :=
  match x with
  | .host t d => some (.host, hostBytes t d)
  | .engine => some (.engine, [(selectVector s).setWidth 8])
  | .header =>
    if Config.hdrBytes ≤ s.stream.length then some (.header (headerContext s), s.stream.take Config.hdrBytes)
    else none
  | .stream _ => none
  | .pulseDone => none
  | .reset => none

/-- The instruction a move runs: the decoder's answer on the bytes fetched. None where no instruction is fetched or,
for the engine's turn in IDLE, no step is enabled (42_synchronizer.md R260). -/
def fetch (x : Input) (s : State) : Option Instr :=
  match fetchBytes x s with
  | some (p, bytes) => (decode p bytes).toOption
  | none => none

/-- What a move that runs no instruction does: the transport's and the reset input's effects; else nothing. -/
def environment (x : Input) (s : State) : State :=
  match x with
  | .host _ _ => s
  | .engine => s
  | .header => s
  | .stream bytes => deliver bytes s
  | .pulseDone => reportPulse s
  | .reset => blockReset s

/-- A move becomes the next one. -/
def queueFirst (x : Input) (s : State) : State := { s with inputs := x :: s.inputs }

/-- A host transaction stands next: T in the low 17 bits of the first three bytes, then wdata. -/
def placeHost (bytes : List Byte) (s : State) : State :=
  match bytes with
  | [t0, t1, t2, d0, d1] => queueFirst (.host (t2.extractLsb' 0 1 ++ t1 ++ t0) (d1 ++ d0)) s
  | _ => s

/-- A header stands next in the stream, and one is due: where none is, the engine is put into STREAMING with the
transport held and no payload owed (log 14). -/
def placeHeader (bytes : List Byte) (s : State) : State :=
  let t := if headerDue s then s else { s with st := .streaming, pend := .none, busHeld := true }
  queueFirst .header { t with stream := bytes ++ t.stream }

/-- The engine state of a 3-bit code; IDLE for 0 and for the codes that never occur. -/
def stateOf (b : BitVec 3) : EngineState :=
  match b.toNat with
  | 1 => .preflight
  | 2 => .syncing
  | 3 => .streaming
  | 4 => .resyncing
  | _ => .idle

/-- The stream holds at least n bytes: zeros follow what it has. -/
def padStream (n : Nat) (bytes : List Byte) : List Byte := bytes ++ List.replicate (n - bytes.length) 0

/-- The engine is put where its select vector is E, with the transport's answer ready, and its turn is next
(log 14). -/
def placeStep (e : BitVec 6) (s : State) : State :=
  let t := { s with
    st := stateOf (e.extractLsb' 3 3)
    syncDone := e.getLsbD 2
    pend := if e.getLsbD 1 then (if s.pend = Pend.none then Pend.img else s.pend) else Pend.none
    probe := if e.getLsbD 0 then BitVec.ofNat 7 Config.probeLimit
      else if s.probe.toNat = Config.probeLimit then 0 else s.probe
    pulseDone := true }
  queueFirst .engine { t with
    busHeld := capturing t
    stream := padStream (if e.getLsbD 1 then Config.payBytes else Config.hdrBytes) t.stream }

/-- The bytes of a table word stand where the next step fetches, by their port. -/
def placeBytes (p : Port) (bytes : List Byte) (s : State) : State :=
  match p with
  | .host => placeHost bytes s
  | .engine => placeStep ((bytes.headD 0).extractLsb' 0 6) s
  | .header _ => placeHeader bytes s

/-- A table word stands where the next step fetches; the state as it is where the word is none. -/
def placeWord (nbits w : Nat) (s : State) : State :=
  match tableBytes nbits w with
  | some (p, bytes) => placeBytes p bytes s
  | none => s

end Sys2Proof.Machine
end

