-- ==== Sys2Proof/Machine/Step.lean ====
section
/-! DEFINITION. One step of the machine: the next move of the environment, if any, is taken off the schedule; the
instruction it fetches runs, or the transport or the reset input acts. -/

namespace Sys2Proof.Machine

/-- One step (20_memory.md R120; log 1). With no move to come nothing happens. -/
def step (s : State) : Host.Outcome State Fault Refusal :=
  match s.inputs with
  | [] => .next s
  | x :: rest =>
    match fetch x s with
    | some i => exec i { s with inputs := rest }
    | none => .next (environment x { s with inputs := rest })

/-- s with a word of the opcode table where step fetches its next instruction (log 14). -/
def State.withFetchWord (s : State) (nbits w : Nat) : State := placeWord nbits w s

end Sys2Proof.Machine
end

