-- ==== Sys2Proof/Safety.lean ====
section
/-! DEFINITION. The terms claims use: the invariant of the block, what a safe step is, the host check order as the
spec lists it, the pixel as the spec's formula, and the counts of stream reads. -/

namespace Sys2Proof.Machine

/-! ## The invariant -/

/-- n bytes from an offset have been written since reset. -/
abbrev BytesWritten (m : Memory) (off n : Nat) : Prop := ∀ k, k < n → (m.get (off + k)).isSome = true

/-- Every pixel byte of the first n output rows of a mode has been written; pad bytes are not asked for. -/
abbrev RowsWritten (m : StorageMode) (img : Memory) (n : Nat) : Prop :=
  ∀ r, r < n → BytesWritten img (rowOffset m r) (width m * bpp m)

/-- What holds of the block at reset and after every step (10_state.md R36 to R39, R64 to R69; 20_memory.md R126;
42_synchronizer.md R260 to R290; 43_reassembly.md R314, R316, R323). -/
structure Inv (s : State) : Prop where
  /-- the RAMs keep their canonical form (log 4) -/
  imgWf : Memory.wf Config.imgRamBytes s.img = true
  scrWf : Memory.wf Config.scrRamBytes s.scr = true
  telWf : Memory.wf Config.telRamBytes s.tel = true
  /-- the counters stay in their ranges (R66) -/
  lineLe : s.line.toNat ≤ 60
  outRowLe : s.outRow.toNat ≤ 60
  skipLe : s.skip.toNat ≤ 5
  probeLe : s.probe.toNat ≤ 120
  /-- the cause codes 9 to 15 are never produced (R405) -/
  causeLe : s.busErrCause.toNat ≤ 8
  /-- sync_done and pend belong to their states (R64, R65, R260) -/
  syncDoneIn : s.syncDone = true → s.st = .syncing
  pendIn : s.pend ≠ .none → s.st = .streaming
  /-- the transport is held exactly past preflight (R126) -/
  bracket : s.busHeld = capturing s
  /-- a capture past preflight found the camera booted (R261) -/
  bootedIn : capturing s = true → booted s = true
  /-- the counters START cleared stay clear until the first header (R200) -/
  fresh : s.st = .preflight ∨ s.st = .syncing →
    s.line = 0 ∧ s.outRow = 0 ∧ s.tele = 0 ∧ s.skip = 0 ∧ s.probe = 0
  /-- a running capture has skipped at most four frames (R284) -/
  skipIn : capturing s = true → s.skip.toNat ≤ 4
  /-- out_row is line / L (R314) -/
  rowOfLine : capturing s = true → s.outRow.toNat = s.line.toNat / lpb s.mode
  /-- the telemetry buffer matches TELE_EN, and an allocated one is all written (R263) -/
  bufferIn : capturing s = true → s.tbufAlloc = teleEn s
  telWritten : s.tbufAlloc = true → BytesWritten s.tel 0 Config.telRamBytes
  /-- where the telemetry of a frame pass stands (R266, R277) -/
  teleOff : capturing s = true → teleEn s = false → s.tele = 0
  teleHeader : capturing s = true → teleEn s = true → teleLoc s = false → 0 < s.line.toNat → s.tele = 3
  teleFooter : capturing s = true → teleEn s = true → teleLoc s = true → s.line.toNat < 60 → s.tele = 0
  /-- a capture still running has a target to meet (R278) -/
  incomplete : capturing s = true → targetsMet s = false
  /-- the payload owed is the one the counters expect (R268, R271) -/
  pendImg : s.pend = .img → s.line.toNat < 60 ∧ inWindow s = false
  pendStore : s.pend = .telStore → inWindow s = true ∧ s.tele = 0
  pendDrop : s.pend = .telDrop → inWindow s = true ∧ s.tele ≠ 0
  /-- the scratch slots of the band in progress hold this pass's packets (R316) -/
  slotsIn : capturing s = true → direct s.mode = false →
    ∀ i, i < s.line.toNat % lpb s.mode → BytesWritten s.scr (slotOffset i) Config.pktBytes
  /-- the rows completed are in IMG, and a valid frame has them all (R38, R323) -/
  rowsIn : capturing s = true → RowsWritten s.mode s.img s.outRow.toNat
  validFrame : s.frameValid = true →
    s.st = .idle ∧ s.result = .done ∧ RowsWritten s.mode s.img (height s.mode)

/-- A safe step: the machine goes on. -/
def StepGoesOn (s : State) : Prop := ∃ t, step s = .next t

/-! ## The next states the rules write out -/

/-- A host access that does not raise: OKAY with rdata (00_scope.md R15; 30_encoding.md R150). -/
def afterAnswer (v : Word) (s : State) : State := { s with response := some { resp := .okay, rdata := v } }

/-- The effects of `raise BusError(c)` on an access to address a (60_exceptions.md R405). -/
def afterBusError (code : BitVec 4) (a : Word) (s : State) : State :=
  { s with
    response := some { resp := .err, rdata := 0x0000 }
    busErrCause := code
    busErrAddr := a
    events := s.events ||| 0b100 }

/-- The effects of terminate(code) (42_synchronizer.md R286). -/
def afterEnd (code : Result) (s : State) : State :=
  { s with
    result := code
    frameValid := decide (code = .done)
    st := .idle
    pend := .none
    syncDone := false
    events := s.events ||| 0b001
    busHeld := false }

/-- The end of a PAYLOAD step, the counters being advanced: nothing is owed, and the capture is done where both row
targets are met (42_synchronizer.md R275, R278). -/
def afterPayload (s : State) : State :=
  let u := { s with pend := .none }
  if s.outRow.toNat = height s.mode ∧ (teleEn s = false ∨ s.tele = 3) then afterEnd .done u else u

/-- A matching header is accepted (42_synchronizer.md R270 to R272, R282). -/
def afterMatch (h : BitVec 32) (s : State) : State :=
  { s with
    st := .streaming
    pend := if isTele h s then (if s.tele = 0 then .telStore else .telDrop) else .img }

/-- A new frame found by a probe (42_synchronizer.md R283 to R285). -/
def afterNewFrame (h : BitVec 32) (s : State) : State :=
  if s.skip + 1 = 5 then afterEnd .frameSkipLimit { s with skip := s.skip + 1 }
  else afterMatch h { s with skip := s.skip + 1, line := 0, outRow := 0, tele := 0 }

/-- The instruction reads header h: the engine step k, or the row of a header class with that header. -/
abbrev ReadsHeader (k : Instr) (h : BitVec 32) (i : Instr) : Prop :=
  i = k ∨ i = .hdrDiscard h ∨ i = .hdrTelemetry h ∨ i = .hdrImage h ∨ i = .hdrNewframe h ∨ i = .hdrOutOfSync h

/-- A header read by a HEADER step, before its classification (42_synchronizer.md R270). -/
def afterHeaderRead (h : BitVec 32) (rest : List Byte) (s : State) : State :=
  { s with stream := rest, hdr := h, syncDone := false }

/-- A header read by a PROBE step, before its classification (42_synchronizer.md R281). -/
def afterProbeRead (h : BitVec 32) (rest : List Byte) (s : State) : State :=
  { s with stream := rest, hdr := h, probe := s.probe + 1 }

/-! ## The host's checks, in the order of 41_host_interface.md R234, over the ranges of 10_state.md R31 and R62 -/

/-- The first check a host access fails; none where it does not raise. -/
def hostCheck (rw : Bool) (a d : Word) (s : State) : Option BusError :=
  let n := a.toNat
  let inImg := 0x4000 ≤ n ∧ n ≤ 0x657E
  let inTraw := 0x0200 ≤ n ∧ n ≤ 0x02A2
  let inTfield := 0x0100 ≤ n ∧ n ≤ 0x013C
  let inControl := n ≤ 0x0028
  if n % 2 = 1 then some .misaligned
  else if ¬(inImg ∨ inTraw ∨ inTfield ∨ inControl) then some .unmapped
  else if rw then
    if inImg ∨ inTraw ∨ inTfield ∨ n = 0x0006 ∨ 0x000C ≤ n then some .readOnly
    else if (n = 0x0002 ∨ n = 0x0004) ∧ s.st ≠ .idle then some .locked
    else if n = 0x0002 ∧ 5 < d.toNat % 8 then some .illegalValue
    else none
  else if (inImg ∨ inTraw ∨ inTfield) ∧ s.st ≠ .idle then some .unavailable
  else if inImg ∧ total s.mode ≤ n - 0x4000 + 1 then some .outOfRange
  else if (inTraw ∨ inTfield) ∧ s.tbufAlloc = false then some .unavailable
  else if inTfield ∧ readByte .tel s 0 = 0x0F then some .notReady
  else none

/-! ## The pixel of 44_downsampler.md R341 -/

/-- The 16-bit big-endian word of a RAM as a number (00_scope.md R13). -/
def wordNat (r : Ram) (s : State) (off : Nat) : Nat :=
  (readByte r s off).toNat * 256 + (readByte r s (off + 1)).toNat

/-- The value R341 gives output column c from the slots of the band in SCR. -/
def specPixel (s : State) (c : Nat) : Nat :=
  let l := lpb s.mode
  let sum := ∑ i ∈ Finset.range l, ∑ j ∈ Finset.range l, wordNat .scr s (176 * i + 4 + 2 * (c * l + j))
  let avg := sum / (l * l)
  if bpp s.mode = 2 then min avg 0x3FFF
  else if agc8 s then min avg 0xFF
  else min (avg / 64) 0xFF

/-! ## Stream reads of a run (42_synchronizer.md R289) -/

/-- The bytes the engine's turn took from the stream; a move that is not the engine's takes none. -/
def bytesTaken (s t : State) : Nat :=
  match s.inputs with
  | .engine :: _ => s.stream.length - t.stream.length
  | .header :: _ => s.stream.length - t.stream.length
  | _ => 0

/-- The 4-byte reads and the 160-byte reads of the next n steps, up to the step that ends the capture. -/
def readsOfCapture (n : Nat) (s : State) : Nat × Nat :=
  match n with
  | 0 => (0, 0)
  | n + 1 =>
    if s.st = .idle then (0, 0)
    else match step s with
      | .next t =>
        ((readsOfCapture n t).1 + (if bytesTaken s t = Config.hdrBytes then 1 else 0),
          (readsOfCapture n t).2 + (if bytesTaken s t = Config.payBytes then 1 else 0))
      | .fault _ => (0, 0)
      | .refused _ => (0, 0)

end Sys2Proof.Machine
end

