-- ==== Sys2Proof/Certificates/Slice0/Obligations.lean ====
section
/-! DEFINITION. The statements for the provers, from the numbered rules of spec/. -/

open Sys2Proof Sys2Proof.Machine

/-! ## Reset -/

/-- 70_reset_and_hazards.md R441: what the host reads right after reset. The IMG bytes read are the free power-on
bytes; nothing is said of their values. -/
def Obligations.ResetReads : Prop :=
  exec .rdStatus State.reset = .next (afterAnswer 0x0000 State.reset) ∧
  exec .rdEvents State.reset = .next (afterAnswer 0x0000 State.reset) ∧
  irq State.reset = false ∧
  exec .rdBuserrCause State.reset = .next (afterAnswer 0x0000 State.reset) ∧
  exec .rdMode State.reset = .next (afterAnswer 0 State.reset) ∧
  exec .rdGeomW State.reset = .next (afterAnswer 80 State.reset) ∧
  exec .rdGeomH State.reset = .next (afterAnswer 60 State.reset) ∧
  exec .rdGeomBpp State.reset = .next (afterAnswer 2 State.reset) ∧
  exec .rdGeomPitch State.reset = .next (afterAnswer 160 State.reset) ∧
  exec .rdGeomTotal State.reset = .next (afterAnswer 9600 State.reset) ∧
  exec .rdGeomLpb State.reset = .next (afterAnswer 1 State.reset) ∧
  State.reset.st = .idle ∧ State.reset.result = .none ∧ State.reset.frameValid = false ∧
  State.reset.tbufAlloc = false ∧ teleReady State.reset = false ∧
  ∀ a : Word, a.toNat % 2 = 0 → 0x4000 ≤ a.toNat → a.toNat ≤ 0x657E →
    exec (.rdImg a) State.reset = .next (afterAnswer (ramWord .img State.reset (a.toNat - 0x4000)) State.reset)

/-- 10_state.md R75: the internal state after reset, and what the host reads of it. -/
def Obligations.ResetRegisters : Prop :=
  exec .rdCtrl State.reset = .next (afterAnswer 0x0000 State.reset) ∧
  exec .rdPreflight State.reset = .next (afterAnswer 0x0000 State.reset) ∧
  exec .rdIrqEn State.reset = .next (afterAnswer 0x0000 State.reset) ∧
  exec .rdSkipCount State.reset = .next (afterAnswer 0 State.reset) ∧
  exec .rdProbeCount State.reset = .next (afterAnswer 0 State.reset) ∧
  exec .rdLine State.reset = .next (afterAnswer 0 State.reset) ∧
  exec .rdOutRow State.reset = .next (afterAnswer 0 State.reset) ∧
  exec .rdTeleCount State.reset = .next (afterAnswer 0 State.reset) ∧
  exec .rdLastHdrId State.reset = .next (afterAnswer 0x0000 State.reset) ∧
  exec .rdLastHdrCrc State.reset = .next (afterAnswer 0x0000 State.reset) ∧
  exec .rdBuserrAddr State.reset = .next (afterAnswer 0x0000 State.reset) ∧
  State.reset.syncDone = false ∧ State.reset.pend = .none ∧ State.reset.hdr = 0 ∧ State.reset.busHeld = false

/-! ## The invariant -/

/-- The invariant holds at reset. -/
def Obligations.ResetMeetsInv : Prop := Inv State.reset

/-- Every step keeps the invariant. -/
def Obligations.StepKeepsInv : Prop := ∀ s t : State, Inv s → step s = .next t → Inv t

/-- 60_exceptions.md R400: no engine step can fault, no packet content is illegal, and every host access is
answered: from every state of the invariant the machine goes on. -/
def Obligations.InvStepGoesOn : Prop := ∀ s : State, Inv s → StepGoesOn s

/-! ## Steps -/

/-- A step runs the instruction its move fetches, and nothing else is done around exec: the move is taken off the
schedule. The bytes fetched are those of a host transaction, of the engine's select vector, or of the header that
stands next in the stream (log 1, log 11). -/
def Obligations.StepRunsDecoded : Prop :=
  ∀ s : State,
    (∀ (x : Input) (rest : List Input) (p : Port) (bytes : List Byte) (i : Instr),
      s.inputs = x :: rest → fetchBytes x s = some (p, bytes) → decode p bytes = .ok i →
        step s = exec i { s with inputs := rest }) ∧
    (∀ t d, fetchBytes (.host t d) s = some (.host, hostBytes t d)) ∧
    fetchBytes .engine s = some (.engine, [(selectVector s).setWidth 8]) ∧
    (∀ h rest, s.stream = headerBytes h ++ rest →
      fetchBytes .header s = some (.header (headerContext s), headerBytes h))

/-- The moves that are no instruction (log 1, log 7, log 8, log 9): a block reset from any state, a running capture
included, leaves the reset state (70_reset_and_hazards.md R440; the schedule goes on and the RAM bytes are other unknown
ones, the model's choices); delivered bytes queue behind those not yet consumed; the pulse report counts only while a
pulse is asked for; an engine turn in IDLE does nothing (42_synchronizer.md R260); with no move to come nothing
happens. -/
def Obligations.EnvironmentMoves : Prop :=
  ∀ (s : State) (rest : List Input),
    (s.inputs = .reset :: rest →
      step s = .next { State.reset with inputs := rest, epoch := s.epoch + 1 }) ∧
    (∀ bytes, s.inputs = .stream bytes :: rest →
      step s = .next { s with inputs := rest, stream := s.stream ++ bytes }) ∧
    (s.inputs = .pulseDone :: rest → s.st = .syncing → s.syncDone = false →
      step s = .next { s with inputs := rest, pulseDone := true }) ∧
    (s.inputs = .pulseDone :: rest → (s.st ≠ .syncing ∨ s.syncDone = true) →
      step s = .next { s with inputs := rest }) ∧
    (s.inputs = .engine :: rest → s.st = .idle → step s = .next { s with inputs := rest }) ∧
    (s.inputs = [] → step s = .next s)

/-- 42_synchronizer.md R260: the engine's select vector selects exactly the step of the table of R260, and none in
IDLE. The vector tells only whether probe is 120 (30_encoding.md R155), so PROBE is selected where probe is not 120: up to
120 that is R260's probe < 120; above, where no run comes, it is the model's choice, and the step then waits (log 21). -/
def Obligations.EnabledStep : Prop :=
  ∀ (s : State) (i : Instr), decodeStep (selectVector s) = .ok i ↔
    (s.st = .preflight ∧ i = .stepPreflight) ∨
    (s.st = .syncing ∧ s.syncDone = false ∧ i = .stepSync) ∨
    (s.st = .syncing ∧ s.syncDone = true ∧ i = .stepHeaderSyncing) ∨
    (s.st = .streaming ∧ s.pend = .none ∧ i = .stepHeaderStreaming) ∨
    (s.st = .streaming ∧ s.pend ≠ .none ∧ i = .stepPayload) ∨
    (s.st = .resyncing ∧ s.probe ≠ 120 ∧ i = .stepProbe) ∨
    (s.st = .resyncing ∧ s.probe = 120 ∧ i = .stepExhaust)

/-! ## Encoding -/

/-- Decoding an instruction's encoding gives it back, for every well-formed instruction, every operand value and every
context. The layout of T, wdata and E in bytes is the model's choice (log 12). -/
def Obligations.DecodeEncode : Prop :=
  ∀ (c : HeaderContext) (i : Instr), wellFormed c i = true → decode (portOf c i) (encode i) = .ok i

/-- 30_encoding.md R151 and R153: every host transaction is exactly one well-formed instruction, and the instruction
keeps every bit the transaction has: T, and for a write wdata too. That a read's encoding has wdata 0, and the five bytes,
are the model's choice (log 12). -/
def Obligations.EveryTransaction : Prop :=
  ∀ (c : HeaderContext) (t : BitVec 17) (d : Word), ∃ i : Instr,
    decode .host (hostBytes t d) = .ok i ∧ wellFormed c i = true ∧
    (t.getLsbD 16 = true → encode i = hostBytes t d) ∧
    (t.getLsbD 16 = false → encode i = hostBytes t 0)

/-- 30_encoding.md R151 and 10_state.md R62: the address decode, as ranges. -/
def Obligations.AddressDecode : Prop :=
  ∀ a : Word, let n := a.toNat
    (region a = .misaligned ↔ n % 2 = 1) ∧
    (region a = .img ↔ n % 2 = 0 ∧ 0x4000 ≤ n ∧ n ≤ 0x657E) ∧
    (region a = .traw ↔ n % 2 = 0 ∧ 0x0200 ≤ n ∧ n ≤ 0x02A2) ∧
    (region a = .tfield ↔ n % 2 = 0 ∧ 0x0100 ≤ n ∧ n ≤ 0x013C) ∧
    (region a = .control ↔ n % 2 = 0 ∧ n ≤ 0x0028) ∧
    (region a = .unmapped ↔ n % 2 = 0 ∧ (0x002A ≤ n ∧ n ≤ 0x00FE ∨ 0x013E ≤ n ∧ n ≤ 0x01FE ∨
      0x02A4 ≤ n ∧ n ≤ 0x3FFE ∨ 0x6580 ≤ n))

/-- 30_encoding.md R147: in every context every header is of exactly one class, the first whose condition of the
table holds. -/
def Obligations.HeaderClasses : Prop :=
  ∀ (c : HeaderContext) (h : BitVec 32),
    let discard := h.toNat / 2 ^ 28 = 0xF
    let ln := h.toNat / 2 ^ 16 % 2 ^ 8
    let image := c.line.toNat < 60 ∧ ln = c.line.toNat
    (decodeHeader c h = .hdrDiscard h ↔ discard) ∧
    (decodeHeader c h = .hdrTelemetry h ↔ ¬discard ∧ c.window = true) ∧
    (decodeHeader c h = .hdrImage h ↔ ¬discard ∧ c.window = false ∧ image) ∧
    (decodeHeader c h = .hdrNewframe h ↔
      ¬discard ∧ c.window = false ∧ ¬image ∧ c.probing = true ∧ ln = 0) ∧
    (decodeHeader c h = .hdrOutOfSync h ↔
      ¬discard ∧ c.window = false ∧ ¬image ∧ ¬(c.probing = true ∧ ln = 0))

/-- 42_synchronizer.md R266, R267, R268 and R269: the classification predicates over the header's number and the
engine's registers. -/
def Obligations.HeaderPredicates : Prop :=
  ∀ (h : BitVec 32) (s : State),
    let discard := h.toNat / 2 ^ 28 = 0xF
    let ln := h.toNat / 2 ^ 16 % 2 ^ 8
    let inWin := s.preflight.getLsbD 1 = true ∧ s.tele.toNat < 3 ∧
      s.line.toNat = if s.preflight.getLsbD 2 then 60 else 0
    (isTele h s = true ↔ ¬discard ∧ inWin) ∧
    (isImage h s = true ↔ ¬discard ∧ ¬inWin ∧ s.line.toNat < 60 ∧ ln = s.line.toNat) ∧
    (matchesHeader h s = true ↔ isTele h s = true ∨ isImage h s = true) ∧
    (isNewframe h s = true ↔ ¬discard ∧ matchesHeader h s = false ∧ ln = 0)

/-- A few words of the table, written out bit by bit, are the instructions they stand for. How a bare word is read is
the model's choice: wdata above bit 23, in the byte layout of log 12, and a header in the context after reset, where
0x0F00BEEF is the image line expected (log 13). -/
def Obligations.SampleWords : Prop :=
  decodeTableWord 24 0b00000000000000110 = some .rdStatus ∧
  decodeTableWord 24 0b10000000000000010 = some (.wrMode 0) ∧
  decodeTableWord 40 (0x0D * 2 ^ 24 + 0b10000000000000010) = some (.wrMode 0x000D) ∧
  decodeTableWord 24 0b00100001011001000 = some (.rdImg 0x42C8) ∧
  decodeTableWord 24 0b00000001010100010 = some (.rdTraw 0x02A2) ∧
  decodeTableWord 24 0b00000000100001000 = some .rdTFlags ∧
  decodeTableWord 24 0b10000000000100110 = some (.wrGeomTotalRo 0) ∧
  decodeTableWord 24 0b00000000000101010 = some (.accUnmapped (.rd 0x002A)) ∧
  decodeTableWord 24 0b10000000000000011 = some (.accMisaligned (.wr 0x0003 0)) ∧
  decodeTableWord 8 0b011010 = some .stepPayload ∧
  decodeTableWord 8 0b100001 = some .stepExhaust ∧
  decodeTableWord 32 0xF0070000 = some (.hdrDiscard 0xF0070000) ∧
  decodeTableWord 32 0x0F00BEEF = some (.hdrImage 0x0F00BEEF)

/-! ## Control registers -/

/-- 41_host_interface.md R201, R204, R206, R208, R210, R219 and R220: the reads of the configuration, event and
bus-error registers, in every state. -/
def Obligations.ControlReads : Prop :=
  ∀ (s : State) (d : Word),
    (decodeHost 0x00000 d = .rdCtrl ∧ exec .rdCtrl s = .next (afterAnswer 0x0000 s)) ∧
    (decodeHost 0x00002 d = .rdMode ∧ exec .rdMode s = .next (afterAnswer ((modeCode s.mode).setWidth 16) s)) ∧
    (decodeHost 0x00004 d = .rdPreflight ∧
      exec .rdPreflight s = .next (afterAnswer (s.preflight.setWidth 16) s)) ∧
    (decodeHost 0x00008 d = .rdEvents ∧ exec .rdEvents s = .next (afterAnswer (s.events.setWidth 16) s)) ∧
    (decodeHost 0x0000A d = .rdIrqEn ∧ exec .rdIrqEn s = .next (afterAnswer (s.irqEn.setWidth 16) s)) ∧
    (decodeHost 0x0001A d = .rdBuserrCause ∧
      exec .rdBuserrCause s = .next (afterAnswer (s.busErrCause.setWidth 16) s)) ∧
    (decodeHost 0x0001C d = .rdBuserrAddr ∧ exec .rdBuserrAddr s = .next (afterAnswer s.busErrAddr s))

/-- 41_host_interface.md R207 and 10_state.md R35: STATUS, field by field, in every state, with the numbers of the states
(10_state.md R36) and of the results (R37). -/
def Obligations.StatusRead : Prop :=
  ∀ (s : State) (d : Word), decodeHost 0x00006 d = .rdStatus ∧
    ∃ v : Word, exec .rdStatus s = .next (afterAnswer v s) ∧
      (v.extractLsb' 0 3).toNat = (match s.st with
        | .idle => 0
        | .preflight => 1
        | .syncing => 2
        | .streaming => 3
        | .resyncing => 4) ∧
      (v.getLsbD 3 = true ↔ s.st ≠ .idle) ∧
      (v.extractLsb' 4 3).toNat = (match s.result with
        | .none => 0
        | .done => 1
        | .notBooted => 2
        | .frameSkipLimit => 3
        | .resyncExhausted => 4) ∧
      v.getLsbD 7 = s.frameValid ∧
      v.getLsbD 8 = s.tbufAlloc ∧
      (v.getLsbD 9 = true ↔ s.tbufAlloc = true ∧ readByte .tel s 0 ≠ 0x0F) ∧
      v.extractLsb' 10 6 = 0

/-- 41_host_interface.md R212 to R218: the observation registers, in every state; a captured header's ID and CRC words
are its high and its low half. -/
def Obligations.ObservationReads : Prop :=
  ∀ (s : State) (d : Word),
    (decodeHost 0x0000C d = .rdSkipCount ∧ exec .rdSkipCount s = .next (afterAnswer (s.skip.setWidth 16) s)) ∧
    (decodeHost 0x0000E d = .rdProbeCount ∧ exec .rdProbeCount s = .next (afterAnswer (s.probe.setWidth 16) s)) ∧
    (decodeHost 0x00010 d = .rdLine ∧ exec .rdLine s = .next (afterAnswer (s.line.setWidth 16) s)) ∧
    (decodeHost 0x00012 d = .rdOutRow ∧ exec .rdOutRow s = .next (afterAnswer (s.outRow.setWidth 16) s)) ∧
    (decodeHost 0x00014 d = .rdTeleCount ∧ exec .rdTeleCount s = .next (afterAnswer (s.tele.setWidth 16) s)) ∧
    (decodeHost 0x00016 d = .rdLastHdrId ∧
      exec .rdLastHdrId s = .next (afterAnswer (s.hdr.extractLsb' 16 16) s)) ∧
    (decodeHost 0x00018 d = .rdLastHdrCrc ∧
      exec .rdLastHdrCrc s = .next (afterAnswer (s.hdr.extractLsb' 0 16) s))

/-- 41_host_interface.md R224 to R229 and 40_geometry.md R184: the geometry registers, in every state, and the table of
their values, all six modes. -/
def Obligations.GeometryReads : Prop :=
  (∀ (s : State) (d : Word),
    (decodeHost 0x0001E d = .rdGeomW ∧ exec .rdGeomW s = .next (afterAnswer (BitVec.ofNat 16 (width s.mode)) s)) ∧
    (decodeHost 0x00020 d = .rdGeomH ∧ exec .rdGeomH s = .next (afterAnswer (BitVec.ofNat 16 (height s.mode)) s)) ∧
    (decodeHost 0x00022 d = .rdGeomBpp ∧ exec .rdGeomBpp s = .next (afterAnswer (BitVec.ofNat 16 (bpp s.mode)) s)) ∧
    (decodeHost 0x00024 d = .rdGeomPitch ∧
      exec .rdGeomPitch s = .next (afterAnswer (BitVec.ofNat 16 (pitch s.mode)) s)) ∧
    (decodeHost 0x00026 d = .rdGeomTotal ∧
      exec .rdGeomTotal s = .next (afterAnswer (BitVec.ofNat 16 (total s.mode)) s)) ∧
    (decodeHost 0x00028 d = .rdGeomLpb ∧
      exec .rdGeomLpb s = .next (afterAnswer (BitVec.ofNat 16 (lpb s.mode)) s))) ∧
  [StorageMode.m80x60x16, .m80x60x8, .m40x30x16, .m40x30x8, .m20x15x16, .m20x15x8].map
      (fun m => ((modeCode m).toNat, [width m, height m, bpp m, width m * bpp m, pitch m, pitch m - width m * bpp m,
        total m, lpb m])) =
    [(0, [80, 60, 2, 160, 160, 0, 9600, 1]), (1, [80, 60, 1, 80, 80, 0, 4800, 1]),
     (2, [40, 30, 2, 80, 80, 0, 2400, 2]), (3, [40, 30, 1, 40, 48, 8, 1432, 2]),
     (4, [20, 15, 2, 40, 48, 8, 712, 4]), (5, [20, 15, 1, 20, 32, 12, 468, 4])] ∧
  ∀ m, total m ≤ 9600 ∧ total m % 2 = 0

/-- 41_host_interface.md R200: a CTRL write with START 0 does nothing; START while idle begins a capture; START while
one runs sets START_IGNORED and nothing else. -/
def Obligations.CtrlWrite : Prop :=
  ∀ (s : State) (d : Word), decodeHost 0x10000 d = .wrCtrl d ∧
    (d.getLsbD 0 = false → exec (.wrCtrl d) s = .next (afterAnswer 0 s)) ∧
    (d.getLsbD 0 = true → s.st = .idle →
      exec (.wrCtrl d) s = .next (afterAnswer 0 { s with
        st := .preflight
        frameValid := false
        line := 0
        outRow := 0
        tele := 0
        skip := 0
        probe := 0
        pend := .none
        syncDone := false })) ∧
    (d.getLsbD 0 = true → s.st ≠ .idle →
      exec (.wrCtrl d) s = .next (afterAnswer 0 { s with events := s.events ||| 0b010 }))

/-- 41_host_interface.md R202, R203 and R205: a write of MODE or PREFLIGHT. While idle a legal mode is taken, and
FRAME_VALID drops where the mode changes; 6 and 7 raise ILLEGAL_VALUE; PREFLIGHT takes its four bits. While a capture
runs every such write raises LOCKED. -/
def Obligations.ConfigurationWrites : Prop :=
  ∀ (s : State) (d : Word), decodeHost 0x10002 d = .wrMode d ∧ decodeHost 0x10004 d = .wrPreflight d ∧
    (∀ m : StorageMode, s.st = .idle → d.extractLsb' 0 3 = modeCode m →
      exec (.wrMode d) s = .next (afterAnswer 0 { s with
        mode := m
        frameValid := if m = s.mode then s.frameValid else false })) ∧
    (s.st = .idle → 5 < d.toNat % 8 → exec (.wrMode d) s = .next (afterBusError 8 0x0002 s)) ∧
    (s.st = .idle →
      exec (.wrPreflight d) s = .next (afterAnswer 0 { s with preflight := d.extractLsb' 0 4 })) ∧
    (s.st ≠ .idle → exec (.wrMode d) s = .next (afterBusError 4 0x0002 s) ∧
      exec (.wrPreflight d) s = .next (afterBusError 4 0x0004 s))

/-- 41_host_interface.md R209 and R211: EVENTS is cleared bit by bit where wdata has 1, IRQ_EN takes its three bits;
both in every state, the engine's included. -/
def Obligations.EventAndEnableWrites : Prop :=
  ∀ (s : State) (d : Word),
    (decodeHost 0x10008 d = .wrEvents d ∧
      ∃ e : BitVec 3, exec (.wrEvents d) s = .next (afterAnswer 0 { s with events := e }) ∧
        ∀ k, k < 3 → e.getLsbD k = (s.events.getLsbD k && !d.getLsbD k)) ∧
    (decodeHost 0x1000A d = .wrIrqEn d ∧
      exec (.wrIrqEn d) s = .next (afterAnswer 0 { s with irqEn := d.extractLsb' 0 3 }))

/-- 60_exceptions.md R410: irq is a level, set exactly where an event and its enable are both 1. -/
def Obligations.InterruptLevel : Prop :=
  irq State.reset = false ∧
  ∀ s : State, irq s = true ↔ ∃ k, k < 3 ∧ s.events.getLsbD k = true ∧ s.irqEn.getLsbD k = true

/-! ## Accesses that raise -/

/-- 41_host_interface.md R230 and R231: a write of a read-only register, of a window or of a decoded telemetry register
raises READ_ONLY at its address, in every state and whatever the data; nothing else changes. -/
def Obligations.ReadOnlyWrites : Prop :=
  ∀ (s : State) (d : Word),
    (∀ r ∈ [((0x0006 : Word), Instr.wrStatusRo d), (0x000C, .wrSkipCountRo d), (0x000E, .wrProbeCountRo d),
        (0x0010, .wrLineRo d), (0x0012, .wrOutRowRo d), (0x0014, .wrTeleCountRo d), (0x0016, .wrLastHdrIdRo d),
        (0x0018, .wrLastHdrCrcRo d), (0x001A, .wrBuserrCauseRo d), (0x001C, .wrBuserrAddrRo d),
        (0x001E, .wrGeomWRo d), (0x0020, .wrGeomHRo d), (0x0022, .wrGeomBppRo d), (0x0024, .wrGeomPitchRo d),
        (0x0026, .wrGeomTotalRo d), (0x0028, .wrGeomLpbRo d)],
      decodeHost (writeT r.1) d = r.2 ∧ exec r.2 s = .next (afterBusError 3 r.1 s)) ∧
    ∀ a : Word, a.toNat % 2 = 0 →
      (0x4000 ≤ a.toNat → a.toNat ≤ 0x657E →
        decodeHost (writeT a) d = .wrImgRo a d ∧ exec (.wrImgRo a d) s = .next (afterBusError 3 a s)) ∧
      (0x0200 ≤ a.toNat → a.toNat ≤ 0x02A2 →
        decodeHost (writeT a) d = .wrTrawRo a d ∧ exec (.wrTrawRo a d) s = .next (afterBusError 3 a s)) ∧
      (0x0100 ≤ a.toNat → a.toNat ≤ 0x013C →
        decodeHost (writeT a) d = .wrTfieldRo a d ∧ exec (.wrTfieldRo a d) s = .next (afterBusError 3 a s))

/-- 41_host_interface.md R232 and R233: an odd address, read or write, anywhere in the space, raises MISALIGNED; an
unmapped even address raises UNMAPPED. -/
def Obligations.BadAddresses : Prop :=
  ∀ (s : State) (a d : Word),
    (a.toNat % 2 = 1 →
      (decodeHost (readT a) d = .accMisaligned (.rd a) ∧
        exec (.accMisaligned (.rd a)) s = .next (afterBusError 1 a s)) ∧
      (decodeHost (writeT a) d = .accMisaligned (.wr a d) ∧
        exec (.accMisaligned (.wr a d)) s = .next (afterBusError 1 a s))) ∧
    (a.toNat % 2 = 0 →
      (0x002A ≤ a.toNat ∧ a.toNat ≤ 0x00FE ∨ 0x013E ≤ a.toNat ∧ a.toNat ≤ 0x01FE ∨
        0x02A4 ≤ a.toNat ∧ a.toNat ≤ 0x3FFE ∨ 0x6580 ≤ a.toNat) →
      (decodeHost (readT a) d = .accUnmapped (.rd a) ∧
        exec (.accUnmapped (.rd a)) s = .next (afterBusError 2 a s)) ∧
      (decodeHost (writeT a) d = .accUnmapped (.wr a d) ∧
        exec (.accUnmapped (.wr a d)) s = .next (afterBusError 2 a s)))

/-- 60_exceptions.md R406: every host transaction raises exactly the first check it fails, in the order of the rule,
with the effects of a bus error; one that fails none is answered OKAY, a write with rdata 0x0000. -/
def Obligations.CheckOrder : Prop :=
  ∀ (s : State) (t : BitVec 17) (d : Word),
    match hostCheck (t.getLsbD 16) (t.extractLsb' 0 16) d s with
    | some c => exec (decodeHost t d) s = .next (afterBusError (causeCode c) (t.extractLsb' 0 16) s)
    | none => ∃ (u : State) (v : Word), exec (decodeHost t d) s = .next u ∧
        u.response = some { resp := .okay, rdata := v } ∧ (t.getLsbD 16 = true → v = 0)

/-! ## Windows -/

/-- 41_host_interface.md R221: an IMG read. -/
def Obligations.ImgRead : Prop :=
  ∀ (s : State) (a d : Word), a.toNat % 2 = 0 → 0x4000 ≤ a.toNat → a.toNat ≤ 0x657E →
    decodeHost (readT a) d = .rdImg a ∧
    (s.st ≠ .idle → exec (.rdImg a) s = .next (afterBusError 5 a s)) ∧
    (s.st = .idle → total s.mode ≤ a.toNat - 0x4000 + 1 → exec (.rdImg a) s = .next (afterBusError 6 a s)) ∧
    (s.st = .idle → a.toNat - 0x4000 + 1 < total s.mode →
      exec (.rdImg a) s = .next (afterAnswer
        (readByte .img s (a.toNat - 0x4000) ++ readByte .img s (a.toNat - 0x4000 + 1)) s))

/-- 41_host_interface.md R222: a TRAW read. -/
def Obligations.TrawRead : Prop :=
  ∀ (s : State) (a d : Word), a.toNat % 2 = 0 → 0x0200 ≤ a.toNat → a.toNat ≤ 0x02A2 →
    decodeHost (readT a) d = .rdTraw a ∧
    (s.st ≠ .idle → exec (.rdTraw a) s = .next (afterBusError 5 a s)) ∧
    (s.st = .idle → s.tbufAlloc = false → exec (.rdTraw a) s = .next (afterBusError 5 a s)) ∧
    (s.st = .idle → s.tbufAlloc = true →
      exec (.rdTraw a) s = .next (afterAnswer
        (readByte .tel s (a.toNat - 0x0200) ++ readByte .tel s (a.toNat - 0x0200 + 1)) s))

/-! ## Decoded telemetry: every statement holds for every legal TELE_LAYOUT (45_telemetry_decoder.md R364; log 5) -/

/-- 41_host_interface.md R223: where a decoded telemetry register does not answer. -/
def Obligations.TelemetryReadErrors : Prop :=
  ∀ (s : State), ∀ r ∈ teleRows,
    (s.st ≠ .idle → exec r.2 s = .next (afterBusError 5 r.1 s)) ∧
    (s.st = .idle → s.tbufAlloc = false → exec r.2 s = .next (afterBusError 5 r.1 s)) ∧
    (s.st = .idle → s.tbufAlloc = true → readByte .tel s 0 = 0x0F → exec r.2 s = .next (afterBusError 7 r.1 s))

/-- 45_telemetry_decoder.md R365, R366, R370 to R381: the revision, serial number and software revision registers. -/
def Obligations.RevisionAndSerialReads : Prop :=
  ∀ s : State, s.st = .idle → s.tbufAlloc = true → readByte .tel s 0 ≠ 0x0F →
    let l := Config.teleLayout
    let w := fun k => ramWord .tel s (2 * k)
    let hi := ((w (l.rev + 2)).extractLsb' 8 8).setWidth 16
    let lo := ((w (l.rev + 2)).extractLsb' 0 8).setWidth 16
    exec .rdTRevMajor s = .next (afterAnswer (if l.revMajorHi then hi else lo) s) ∧
    exec .rdTRevMinor s = .next (afterAnswer (if l.revMajorHi then lo else hi) s) ∧
    exec .rdTSerial0 s = .next (afterAnswer (w (l.serial + 2)) s) ∧
    exec .rdTSerial1 s = .next (afterAnswer (w (l.serial + 3)) s) ∧
    exec .rdTSerial2 s = .next (afterAnswer (w (l.serial + 4)) s) ∧
    exec .rdTSerial3 s = .next (afterAnswer (w (l.serial + 5)) s) ∧
    exec .rdTSerial4 s = .next (afterAnswer (w (l.serial + 6)) s) ∧
    exec .rdTSerial5 s = .next (afterAnswer (w (l.serial + 7)) s) ∧
    exec .rdTSerial6 s = .next (afterAnswer (w (l.serial + 8)) s) ∧
    exec .rdTSerial7 s = .next (afterAnswer (w (l.serial + 9)) s) ∧
    exec .rdTSwrev0 s = .next (afterAnswer (w (l.swrev + 2)) s) ∧
    exec .rdTSwrev1 s = .next (afterAnswer (w (l.swrev + 3)) s) ∧
    exec .rdTSwrev2 s = .next (afterAnswer (w (l.swrev + 4)) s) ∧
    exec .rdTSwrev3 s = .next (afterAnswer (w (l.swrev + 5)) s)

/-- 45_telemetry_decoder.md R361, R367, R368, R369, R382 and R383: the 32-bit fields, by the layout's word order, and
the flags by the layout's bit positions. -/
def Obligations.DoubleWordReads : Prop :=
  ∀ s : State, s.st = .idle → s.tbufAlloc = true → readByte .tel s 0 ≠ 0x0F →
    let l := Config.teleLayout
    let w := fun k => ramWord .tel s (2 * k)
    let dw : Nat → BitVec 32 := fun k =>
      if l.order32 = .lswFirst then w (k + 1) ++ w k else w k ++ w (k + 1)
    let status := dw (l.status + 2)
    exec .rdTUptimeLo s = .next (afterAnswer ((dw (l.uptime + 2)).extractLsb' 0 16) s) ∧
    exec .rdTUptimeHi s = .next (afterAnswer ((dw (l.uptime + 2)).extractLsb' 16 16) s) ∧
    exec .rdTFramecntLo s = .next (afterAnswer ((dw (l.frameCnt + 2)).extractLsb' 0 16) s) ∧
    exec .rdTFramecntHi s = .next (afterAnswer ((dw (l.frameCnt + 2)).extractLsb' 16 16) s) ∧
    ∃ v : Word, exec .rdTFlags s = .next (afterAnswer v s) ∧
      v.getLsbD 0 = status.getLsbD l.ffcDesired ∧
      v.getLsbD 1 = status.getLsbD l.ffcState ∧
      v.getLsbD 2 = status.getLsbD (l.ffcState + 1) ∧
      v.getLsbD 3 = status.getLsbD l.agc ∧
      v.getLsbD 4 = status.getLsbD l.shutdown ∧
      ∀ k, 5 ≤ k → v.getLsbD k = false

/-- 45_telemetry_decoder.md R384 to R395: the frame mean, the temperatures, the AGC region, the clip limits and the FFC
frame count. -/
def Obligations.WordFieldReads : Prop :=
  ∀ s : State, s.st = .idle → s.tbufAlloc = true → readByte .tel s 0 ≠ 0x0F →
    let l := Config.teleLayout
    let w := fun k => ramWord .tel s (2 * k)
    exec .rdTFrameMean s = .next (afterAnswer (w (l.mean + 2)) s) ∧
    exec .rdTFpaTemp s = .next (afterAnswer (w (l.fpa + 2)) s) ∧
    exec .rdTFpaTempFfc s = .next (afterAnswer (w (l.fpaFfc + 2)) s) ∧
    exec .rdTHousTemp s = .next (afterAnswer (w (l.hous + 2)) s) ∧
    exec .rdTHousTempFfc s = .next (afterAnswer (w (l.housFfc + 2)) s) ∧
    exec .rdTRoiTop s = .next (afterAnswer (w (l.roi + 2)) s) ∧
    exec .rdTRoiLeft s = .next (afterAnswer (w (l.roi + 3)) s) ∧
    exec .rdTRoiBottom s = .next (afterAnswer (w (l.roi + 4)) s) ∧
    exec .rdTRoiRight s = .next (afterAnswer (w (l.roi + 5)) s) ∧
    exec .rdTClipHi s = .next (afterAnswer (w (l.clipHi + 2)) s) ∧
    exec .rdTClipLo s = .next (afterAnswer (w (l.clipLo + 2)) s) ∧
    exec .rdTLog2Ffc s = .next (afterAnswer (w (l.log2Ffc + 2)) s)

/-- 45_telemetry_decoder.md R398: no decoded field uses buffer words 0 and 1, whatever the legal layout: where neither
buffer shows the sentinel, the header words make no difference to any decoded register. -/
def Obligations.FieldsIgnoreHeaderWords : Prop :=
  ∀ (s t : State), t = { s with tel := t.tel } → (∀ a, 4 ≤ a → a < 164 → readByte .tel t a = readByte .tel s a) →
    readByte .tel s 0 ≠ 0x0F → readByte .tel t 0 ≠ 0x0F →
    ∀ r ∈ teleRows, ∀ u v, exec r.2 s = .next u → exec r.2 t = .next v → u.response = v.response

/-! ## The capture's start -/

/-- 42_synchronizer.md R262: a PREFLIGHT step that finds the camera not booted ends the capture and does nothing
else: no byte of the stream is read, no RAM is written, tbuf_alloc stays. -/
def Obligations.NotBooted : Prop :=
  ∀ s : State, s.st = .preflight → s.preflight.getLsbD 3 = false →
    exec .stepPreflight s = .next { s with
      result := .notBooted
      frameValid := false
      st := .idle
      pend := .none
      syncDone := false
      events := s.events ||| 0b001
      busHeld := false }

/-- 42_synchronizer.md R261, R263 and R264: a PREFLIGHT step of a booted camera allocates, frees or keeps the
telemetry buffer by TELE_EN, takes the transport and asks for the sync pulse. An allocation writes the sentinel and
163 zeros; otherwise no byte of any RAM changes. -/
def Obligations.PreflightBooted : Prop :=
  ∀ s : State, s.st = .preflight → s.preflight.getLsbD 3 = true → ∃ t : State,
    exec .stepPreflight s = .next t ∧
    t = { s with
      tbufAlloc := s.preflight.getLsbD 1
      tel := t.tel
      busHeld := true
      st := .syncing
      syncDone := false
      pulseDone := false } ∧
    (s.preflight.getLsbD 1 = true → s.tbufAlloc = false →
      readByte .tel t 0 = 0x0F ∧ (∀ a, 1 ≤ a → a < 164 → readByte .tel t a = 0) ∧
      ∀ a, 164 ≤ a → readByte .tel t a = readByte .tel s a) ∧
    ((s.preflight.getLsbD 1 = false ∨ s.tbufAlloc = true) → ∀ a, readByte .tel t a = readByte .tel s a)

/-- 42_synchronizer.md R265: the SYNC step, once the transport has reported the pulse done (log 8), sets sync_done and
reads no byte. -/
def Obligations.SyncStep : Prop :=
  ∀ s : State, s.st = .syncing → s.syncDone = false → s.pulseDone = true →
    exec .stepSync s = .next { s with syncDone := true, pulseDone := false }

/-! ## Headers -/

/-- 42_synchronizer.md R270 to R274: a HEADER step reads four bytes; a match is accepted, anything else begins a
resynchronization; sync_done is cleared. While SYNCING and while STREAMING. -/
def Obligations.HeaderStep : Prop :=
  ∀ (s : State) (h : BitVec 32) (rest : List Byte), s.stream = headerBytes h ++ rest →
    let t := afterHeaderRead h rest s
    let out := if matchesHeader h s then afterMatch h t else { t with st := .resyncing, probe := 0 }
    (s.st = .syncing → s.syncDone = true → exec .stepHeaderSyncing s = .next out) ∧
    (s.st = .streaming → s.pend = .none → exec .stepHeaderStreaming s = .next out)

/-- 42_synchronizer.md R281 to R285: a PROBE step reads four bytes and counts; a match resumes, a new frame skips or
ends the capture, anything else leaves the engine probing. -/
def Obligations.ProbeStep : Prop :=
  ∀ (s : State) (h : BitVec 32) (rest : List Byte), s.st = .resyncing → s.probe.toNat < 120 →
    s.stream = headerBytes h ++ rest →
    let t := afterProbeRead h rest s
    exec .stepProbe s = .next
      (if matchesHeader h s then afterMatch h t
      else if isNewframe h s then afterNewFrame h t
      else t)

/-- 42_synchronizer.md R280: EXHAUST ends the capture after the 120th probe and reads no byte. -/
def Obligations.ExhaustStep : Prop :=
  ∀ s : State, s.st = .resyncing → s.probe = 120 →
    exec .stepExhaust s = .next { s with
      result := .resyncExhausted
      frameValid := false
      st := .idle
      pend := .none
      syncDone := false
      events := s.events ||| 0b001
      busHeld := false }

/-- The header rows of spec/opcode_table.json where a HEADER step is due (30_encoding.md R147; 42_synchronizer.md R267,
R268, R270 to R273): each takes the header H that stands next in the stream and does what its class says (log 11); a
header that has not arrived is NotEnabledWaits'. -/
def Obligations.HeaderRowsStreaming : Prop :=
  ∀ (s : State) (h : BitVec 32) (rest : List Byte), s.stream = headerBytes h ++ rest →
    (s.st = .syncing ∧ s.syncDone = true ∨ s.st = .streaming ∧ s.pend = .none) →
    let t := afterHeaderRead h rest s
    (isDiscard h = true → exec (.hdrDiscard h) s = .next { t with st := .resyncing, probe := 0 }) ∧
    (isTele h s = true → exec (.hdrTelemetry h) s = .next { t with
      st := .streaming
      pend := if s.tele = 0 then .telStore else .telDrop }) ∧
    (isImage h s = true → exec (.hdrImage h) s = .next { t with st := .streaming, pend := .img }) ∧
    (isDiscard h = false → matchesHeader h s = false →
      exec (.hdrOutOfSync h) s = .next { t with st := .resyncing, probe := 0 })

/-- The header rows where a PROBE is due (30_encoding.md R147; 42_synchronizer.md R269, R281 to R285): a header with no
match leaves the engine probing (log 11). -/
def Obligations.HeaderRowsProbing : Prop :=
  ∀ (s : State) (h : BitVec 32) (rest : List Byte), s.stream = headerBytes h ++ rest → s.st = .resyncing →
    s.probe.toNat < 120 →
    let t := afterProbeRead h rest s
    (isDiscard h = true → exec (.hdrDiscard h) s = .next t) ∧
    (isTele h s = true → exec (.hdrTelemetry h) s = .next { t with
      st := .streaming
      pend := if s.tele = 0 then .telStore else .telDrop }) ∧
    (isImage h s = true → exec (.hdrImage h) s = .next { t with st := .streaming, pend := .img }) ∧
    (isNewframe h s = true → exec (.hdrNewframe h) s = .next (afterNewFrame h t)) ∧
    (isDiscard h = false → matchesHeader h s = false → isNewframe h s = false →
      exec (.hdrOutOfSync h) s = .next t)

/-- The two sides of the table agree (log 11): where a header stands in the stream and is due, the header row the
decoder reads and the engine step that reads the header give the same next state. -/
def Obligations.HeaderRowsAgree : Prop :=
  ∀ (s : State) (h : BitVec 32) (rest : List Byte) (i : Instr), s.stream = headerBytes h ++ rest →
    headerDue s = true → decodeStep (selectVector s) = .ok i →
      exec (decodeHeader (headerContext s) h) s = exec i s

/-- Where a step or a header row is not enabled, the engine waits: the model answers the same state (log 10;
42_synchronizer.md R260; 93_implementation_defined.md I4). A header row is enabled where a header is due, its header has
arrived, and that header is of its class (30_encoding.md R147; log 11). -/
def Obligations.NotEnabledWaits : Prop :=
  ∀ (s : State) (h : BitVec 32),
    (s.st ≠ .preflight → exec .stepPreflight s = .next s) ∧
    ((s.st ≠ .syncing ∨ s.syncDone = true ∨ s.pulseDone = false) → exec .stepSync s = .next s) ∧
    ((s.st ≠ .syncing ∨ s.syncDone = false ∨ s.stream.length < 4) → exec .stepHeaderSyncing s = .next s) ∧
    ((s.st ≠ .streaming ∨ s.pend ≠ .none ∨ s.stream.length < 4) → exec .stepHeaderStreaming s = .next s) ∧
    ((s.st ≠ .streaming ∨ s.pend = .none ∨ s.stream.length < 160) → exec .stepPayload s = .next s) ∧
    ((s.st ≠ .resyncing ∨ 120 ≤ s.probe.toNat ∨ s.stream.length < 4) → exec .stepProbe s = .next s) ∧
    ((s.st ≠ .resyncing ∨ s.probe ≠ 120) → exec .stepExhaust s = .next s) ∧
    ((headerDue s = false ∨ s.stream.take 4 ≠ headerBytes h) →
      ∀ i ∈ [Instr.hdrDiscard h, .hdrTelemetry h, .hdrImage h, .hdrNewframe h, .hdrOutOfSync h],
        exec i s = .next s) ∧
    (isDiscard h = false → exec (.hdrDiscard h) s = .next s) ∧
    (isTele h s = false → exec (.hdrTelemetry h) s = .next s) ∧
    (isImage h s = false → exec (.hdrImage h) s = .next s) ∧
    ((isNewframe h s = false ∨ s.st ≠ .resyncing) → exec (.hdrNewframe h) s = .next s) ∧
    ((isDiscard h = true ∨ matchesHeader h s = true ∨ s.st = .resyncing ∧ isNewframe h s = true) →
      exec (.hdrOutOfSync h) s = .next s)

/-- 30_encoding.md R143 and R142: what a header-reading step does with a header depends neither on the CRC word nor on
header bits [27:24]: two headers that agree on bits [31:28] and on the line number, read by the same step, leave states
that differ in the header register alone. (Stored as byte 0 of TEL, bits [27:24] later tell the sentinel,
43_reassembly.md R321; that is no header-reading step.) -/
def Obligations.CrcNeverMatters : Prop :=
  ∀ (s : State) (h k : BitVec 32) (rest : List Byte),
    h.extractLsb' 28 4 = k.extractLsb' 28 4 → h.extractLsb' 16 8 = k.extractLsb' 16 8 →
    ∀ i ∈ [Instr.stepHeaderSyncing, .stepHeaderStreaming, .stepProbe], ∀ t,
      exec i { s with stream := headerBytes h ++ rest } = .next t → t.stream = rest →
      ∃ hdr, exec i { s with stream := headerBytes k ++ rest } = .next { t with hdr := hdr }

/-! ## Payloads -/

/-- 43_reassembly.md R311, with 42_synchronizer.md R275, R276 and R278: an image payload in MODE 0 is row `line` of
IMG, byte for byte; no other byte of IMG and nothing of SCR or TEL changes. -/
def Obligations.DirectLine : Prop :=
  ∀ (s : State) (pay rest : List Byte), s.st = .streaming → s.pend = .img → s.mode = .m80x60x16 →
    s.line.toNat < 60 → pay.length = 160 → s.stream = pay ++ rest → ∃ t : State,
    exec .stepPayload s = .next t ∧
    t = afterPayload { s with stream := rest, img := t.img, line := s.line + 1, outRow := s.outRow + 1 } ∧
    ∀ a, readByte .img t a =
      if s.line.toNat * 160 ≤ a ∧ a < s.line.toNat * 160 + 160 then pay.getD (a - s.line.toNat * 160) 0
      else readByte .img s a

/-- 43_reassembly.md R312, with 40_geometry.md R190: an image payload in another mode, not the last line of its band,
goes with its header to slot line mod L of SCR; no other byte of SCR and nothing of IMG or TEL changes. -/
def Obligations.ScratchLine : Prop :=
  ∀ (s : State) (pay rest : List Byte), s.st = .streaming → s.pend = .img → s.mode ≠ .m80x60x16 →
    s.line.toNat < 60 → s.line.toNat % lpb s.mode ≠ lpb s.mode - 1 → pay.length = 160 → s.stream = pay ++ rest →
    let base := 176 * (s.line.toNat % lpb s.mode)
    ∃ t : State, exec .stepPayload s = .next t ∧
    t = afterPayload { s with stream := rest, scr := t.scr, line := s.line + 1 } ∧
    ∀ a, readByte .scr t a =
      if base ≤ a ∧ a < base + 4 then (headerBytes s.hdr).getD (a - base) 0
      else if base + 4 ≤ a ∧ a < base + 164 then pay.getD (a - (base + 4)) 0
      else readByte .scr s a

/-- 44_downsampler.md R341, with 43_reassembly.md R312 and R313: the last line of a band is stored in its slot, and
output row line / L is made: every pixel is the value of R341's formula over the slots as they now stand, in the byte
order of R347; no other byte of IMG or SCR changes. -/
def Obligations.BandRow : Prop :=
  ∀ (s : State) (pay rest : List Byte), s.st = .streaming → s.pend = .img → s.mode ≠ .m80x60x16 →
    s.line.toNat < 60 → s.line.toNat % lpb s.mode = lpb s.mode - 1 → pay.length = 160 → s.stream = pay ++ rest →
    let base := 176 * (s.line.toNat % lpb s.mode)
    let row := s.line.toNat / lpb s.mode * pitch s.mode
    ∃ t : State, exec .stepPayload s = .next t ∧
    t = afterPayload { s with
      stream := rest, scr := t.scr, img := t.img, line := s.line + 1, outRow := s.outRow + 1 } ∧
    (∀ a, readByte .scr t a =
      if base ≤ a ∧ a < base + 4 then (headerBytes s.hdr).getD (a - base) 0
      else if base + 4 ≤ a ∧ a < base + 164 then pay.getD (a - (base + 4)) 0
      else readByte .scr s a) ∧
    (∀ c, c < width s.mode →
      if bpp s.mode = 2 then
        (readByte .img t (row + 2 * c)).toNat * 256 + (readByte .img t (row + 2 * c + 1)).toNat = specPixel t c
      else (readByte .img t (row + c)).toNat = specPixel t c) ∧
    ∀ a, (a < row ∨ row + width s.mode * bpp s.mode ≤ a) → readByte .img t a = readByte .img s a

/-- 43_reassembly.md R318 and R319: the payload of telemetry sub-packet 0 fills TEL with its header, and no other RAM
byte changes; the payloads of sub-packets 1 and 2 are read and dropped, and no RAM changes. -/
def Obligations.TelemetryPayloads : Prop :=
  ∀ (s : State) (pay rest : List Byte), s.st = .streaming → pay.length = 160 → s.stream = pay ++ rest →
    (s.pend = .telStore → ∃ t : State,
      exec .stepPayload s = .next t ∧
      t = afterPayload { s with stream := rest, tel := t.tel, tele := s.tele + 1 } ∧
      ∀ a, readByte .tel t a =
        if a < 4 then (headerBytes s.hdr).getD a 0
        else if a < 164 then pay.getD (a - 4) 0
        else readByte .tel s a) ∧
    (s.pend = .telDrop →
      exec .stepPayload s = .next (afterPayload { s with stream := rest, tele := s.tele + 1 }))

/-! ## The downsampler's arithmetic -/

/-- 44_downsampler.md R343: no block sum reaches 2^20. -/
def Obligations.BlockSumFits : Prop :=
  ∀ (s : State) (m : StorageMode) (c : Nat),
    blockSum s (lpb m) c ≤ lpb m * lpb m * 65535 ∧ blockSum s (lpb m) c ≤ 1048560 ∧ 1048560 < 2 ^ 20

/-- 44_downsampler.md R348 and 40_geometry.md R189: no instruction writes a pad byte of IMG, in any state. -/
def Obligations.PadBytesStay : Prop :=
  ∀ (i : Instr) (s t : State) (r a : Nat), exec i s = .next t →
    r * pitch s.mode + width s.mode * bpp s.mode ≤ a → a < (r + 1) * pitch s.mode →
    readByte .img t a = readByte .img s a

/-! ## Rules of the whole block -/

/-- 10_state.md R71, with 45_telemetry_decoder.md R363: the only writers of the RAMs. IMG and SCR change in a payload
step with an image owed, SCR only off MODE 0; TEL changes where sub-packet 0 is stored or the buffer is allocated. -/
def Obligations.RamWriters : Prop :=
  ∀ (i : Instr) (s t : State), exec i s = .next t → ∀ a : Nat,
    (readByte .img t a ≠ readByte .img s a → i = .stepPayload ∧ s.st = .streaming ∧ s.pend = .img) ∧
    (readByte .scr t a ≠ readByte .scr s a →
      i = .stepPayload ∧ s.st = .streaming ∧ s.pend = .img ∧ s.mode ≠ .m80x60x16) ∧
    (readByte .tel t a ≠ readByte .tel s a →
      i = .stepPayload ∧ s.st = .streaming ∧ s.pend = .telStore ∨
      i = .stepPreflight ∧ s.st = .preflight ∧ booted s = true ∧ teleEn s = true ∧ s.tbufAlloc = false)

/-- 42_synchronizer.md R288: no host transaction stops or disturbs a running capture: while one runs it changes at
most the response, the events, their enables and the bus-error registers. -/
def Obligations.NoCancellation : Prop :=
  ∀ (s u : State) (t : BitVec 17) (d : Word), s.st ≠ .idle → exec (decodeHost t d) s = .next u →
    u = { s with
      response := u.response
      events := u.events
      irqEn := u.irqEn
      busErrCause := u.busErrCause
      busErrAddr := u.busErrAddr } ∧
    ∀ k, k < 3 → u.events.getLsbD k = false → s.events.getLsbD k = true → t = 0x10008 ∧ d.getLsbD k = true

/-- 20_memory.md R114: a host read that succeeds changes nothing but the response; one that raises changes the cause,
the address and EVENTS.BUSERR besides. -/
def Obligations.ReadSideEffects : Prop :=
  ∀ (s u : State) (t : BitVec 17) (d : Word), t.getLsbD 16 = false → exec (decodeHost t d) s = .next u →
    (∃ v, u = { s with response := some { resp := .okay, rdata := v } }) ∨
    ∃ c : BusError, u = { s with
      response := some { resp := .err, rdata := 0 }
      busErrCause := causeCode c
      busErrAddr := t.extractLsb' 0 16
      events := s.events ||| 0b100 }

/-- 10_state.md R69 and 42_synchronizer.md R286: what no engine step and no header row writes: the configuration, the
enables, the bus-error registers and the response; of the events they set DONE at most. -/
def Obligations.EngineFrame : Prop :=
  ∀ (c : HeaderContext) (i : Instr) (s t : State), portOf c i ≠ .host → exec i s = .next t →
    t.mode = s.mode ∧ t.preflight = s.preflight ∧ t.irqEn = s.irqEn ∧ t.busErrCause = s.busErrCause ∧
    t.busErrAddr = s.busErrAddr ∧ t.response = s.response ∧ t.inputs = s.inputs ∧ t.epoch = s.epoch ∧
    (t.events = s.events ∨ t.events = s.events ||| 0b001)

/-- 42_synchronizer.md R260: an accepted START is the only instruction that leaves IDLE. -/
def Obligations.OnlyStartLeavesIdle : Prop :=
  ∀ (i : Instr) (s t : State), s.st = .idle → exec i s = .next t → t.st ≠ .idle →
    t.st = .preflight ∧ ∃ d : Word, i = .wrCtrl d ∧ d.getLsbD 0 = true

/-- 42_synchronizer.md R290: the transition table. From every state of the invariant, an engine step or a header row
waits or is one row of the table: its step, its condition, where it goes and its effect. `reads k` says that k, or the
header row of that class, takes the header that stands next in the stream and latches it. -/
def Obligations.TransitionTable : Prop :=
  ∀ (c : HeaderContext) (i : Instr) (s t : State), Inv s → portOf c i ≠ .host → exec i s = .next t →
    let h := t.hdr
    let reads := fun k => ReadsHeader k h i ∧ s.stream = headerBytes h ++ t.stream
    let owed := if isTele h s then (if s.tele = 0 then Pend.telStore else .telDrop) else .img
    let targets := t.outRow.toNat = height t.mode ∧ (teleEn t = false ∨ t.tele = 3)
    let counters := t.line = s.line ∧ t.outRow = s.outRow ∧ t.tele = s.tele ∧ t.skip = s.skip
    t = s ∨
    (i = .stepPreflight ∧ s.st = .preflight ∧ booted s = false ∧ t.st = .idle ∧ t.result = .notBooted ∧ counters) ∨
    (i = .stepPreflight ∧ s.st = .preflight ∧ booted s = true ∧
      t.st = .syncing ∧ t.busHeld = true ∧ t.tbufAlloc = teleEn s ∧ counters) ∨
    (i = .stepSync ∧ s.st = .syncing ∧ s.syncDone = false ∧ t.st = .syncing ∧ t.syncDone = true ∧ counters) ∨
    (reads .stepHeaderSyncing ∧ s.st = .syncing ∧ s.syncDone = true ∧ matchesHeader h s = true ∧
      t.st = .streaming ∧ t.pend = owed ∧ counters) ∨
    (reads .stepHeaderSyncing ∧ s.st = .syncing ∧ s.syncDone = true ∧ matchesHeader h s = false ∧
      t.st = .resyncing ∧ t.probe = 0 ∧ counters) ∨
    (reads .stepHeaderStreaming ∧ s.st = .streaming ∧ s.pend = .none ∧ matchesHeader h s = true ∧
      t.st = .streaming ∧ t.pend = owed ∧ counters) ∨
    (reads .stepHeaderStreaming ∧ s.st = .streaming ∧ s.pend = .none ∧ matchesHeader h s = false ∧
      t.st = .resyncing ∧ t.probe = 0 ∧ counters) ∨
    (i = .stepPayload ∧ s.st = .streaming ∧ s.pend ≠ .none ∧ targets ∧ t.st = .idle ∧ t.result = .done) ∨
    (i = .stepPayload ∧ s.st = .streaming ∧ s.pend ≠ .none ∧ ¬targets ∧ t.st = .streaming ∧ t.pend = .none) ∨
    (i = .stepExhaust ∧ s.st = .resyncing ∧ s.probe = 120 ∧
      t.st = .idle ∧ t.result = .resyncExhausted ∧ counters) ∨
    (reads .stepProbe ∧ s.st = .resyncing ∧ s.probe.toNat < 120 ∧ t.probe = s.probe + 1 ∧
      matchesHeader h s = true ∧ t.st = .streaming ∧ t.pend = owed ∧ counters) ∨
    (reads .stepProbe ∧ s.st = .resyncing ∧ s.probe.toNat < 120 ∧ t.probe = s.probe + 1 ∧
      isNewframe h s = true ∧ s.skip.toNat + 1 = 5 ∧ t.st = .idle ∧ t.result = .frameSkipLimit ∧ t.skip = 5 ∧
      t.line = s.line ∧ t.outRow = s.outRow ∧ t.tele = s.tele) ∨
    (reads .stepProbe ∧ s.st = .resyncing ∧ s.probe.toNat < 120 ∧ t.probe = s.probe + 1 ∧
      isNewframe h s = true ∧ s.skip.toNat + 1 < 5 ∧ t.st = .streaming ∧ t.skip.toNat = s.skip.toNat + 1 ∧
      t.line = 0 ∧ t.outRow = 0 ∧ t.tele = 0 ∧
      t.pend = if teleEn s = true ∧ teleLoc s = false then .telStore else .img) ∨
    (reads .stepProbe ∧ s.st = .resyncing ∧ s.probe.toNat < 120 ∧ t.probe = s.probe + 1 ∧
      matchesHeader h s = false ∧ isNewframe h s = false ∧ t.st = .resyncing ∧ counters)

/-- 10_state.md R37 and R38: RESULT is written only where a capture ends, and FRAME_VALID is set only by a capture
that ends DONE; DONE is set in EVENTS by every end (60_exceptions.md R411). -/
def Obligations.ResultAtCaptureEnd : Prop :=
  ∀ (i : Instr) (s t : State), exec i s = .next t →
    (t.result ≠ s.result → s.st ≠ .idle ∧ t.st = .idle) ∧
    (t.frameValid = true → s.frameValid = false → s.st = .streaming ∧ t.st = .idle ∧ t.result = .done) ∧
    (s.st ≠ .idle → t.st = .idle → t.events.getLsbD 0 = true ∧ t.result ≠ .none ∧
      t.frameValid = decide (t.result = .done))

/-! ## Runs of the engine -/

/-- 42_synchronizer.md R279 and 60_exceptions.md R403: a resynchronization episode reads at most 120 probes: after 120
headers that neither match nor begin a frame, the next engine turn ends the capture RESYNC_EXHAUSTED, with the line
and row counters as they were. -/
def Obligations.ProbeBudget : Prop :=
  ∀ (s : State) (hs : List (BitVec 32)) (rest : List Byte) (more : List Input),
    s.st = .resyncing → s.probe = 0 → hs.length = 120 →
    (∀ h ∈ hs, matchesHeader h s = false ∧ isNewframe h s = false) →
    s.stream = hs.flatMap headerBytes ++ rest → s.inputs = List.replicate 121 .engine ++ more →
    Host.Core.run Sys2Proof.core 121 s =
      .next (afterEnd .resyncExhausted { s with
        stream := rest, inputs := more, probe := 120, hdr := hs.getLastD 0 })

/-- 42_synchronizer.md R278 and R282, with 43_reassembly.md R311: the 60 ordered image packets of a frame in MODE 0
without telemetry, read in 120 engine turns, end the capture DONE with every byte of IMG the payload byte sent for
it. -/
def Obligations.CleanFrame : Prop :=
  ∀ (s : State) (packets : List (BitVec 32 × List Byte)) (rest : List Byte) (more : List Input),
    s.st = .streaming → s.pend = .none → s.mode = .m80x60x16 → teleEn s = false → s.line = 0 → s.outRow = 0 →
    packets.length = 60 →
    (∀ y, ∀ p ∈ packets[y]?, isDiscard p.1 = false ∧ (headerLine p.1).toNat = y ∧ p.2.length = 160) →
    s.stream = packets.flatMap (fun p => headerBytes p.1 ++ p.2) ++ rest →
    s.inputs = List.replicate 120 .engine ++ more →
    ∃ t : State, Host.Core.run Sys2Proof.core 120 s = .next t ∧
      t.st = .idle ∧ t.result = .done ∧ t.frameValid = true ∧ t.events = s.events ||| 0b001 ∧
      t.line = 60 ∧ t.outRow = 60 ∧ t.skip = s.skip ∧ t.stream = rest ∧ t.inputs = more ∧
      ∀ y, ∀ p ∈ packets[y]?, ∀ k, k < 160 → readByte .img t (y * 160 + k) = p.2.getD k 0

/-- 42_synchronizer.md R289: a capture makes at most 38063 header reads and at most 311 payload reads, whatever the
stream's bytes and whatever the schedule, counted over any number of steps from its first one. -/
def Obligations.ReadsBounded : Prop :=
  ∀ (s : State) (n : Nat), Inv s → (s.st = .preflight ∨ s.st = .syncing) →
    (readsOfCapture n s).1 ≤ 38063 ∧ (readsOfCapture n s).2 ≤ 311
end

