-- ==== Sys2Proof/Laws/State.lean ====
section
/-! SUPPORT. One lemma per field per update of the state, so that no proof unfolds a record update. -/

namespace Sys2Proof.Machine

variable (s : State)


/-! ### setEvent -/

@[simp] theorem setEvent_mode (e : BitVec 3) : (setEvent e s).mode = s.mode := rfl
@[simp] theorem setEvent_preflight (e : BitVec 3) : (setEvent e s).preflight = s.preflight := rfl
@[simp] theorem setEvent_events (e : BitVec 3) : (setEvent e s).events = s.events ||| e := rfl
@[simp] theorem setEvent_irqEn (e : BitVec 3) : (setEvent e s).irqEn = s.irqEn := rfl
@[simp] theorem setEvent_busErrCause (e : BitVec 3) : (setEvent e s).busErrCause = s.busErrCause := rfl
@[simp] theorem setEvent_busErrAddr (e : BitVec 3) : (setEvent e s).busErrAddr = s.busErrAddr := rfl
@[simp] theorem setEvent_st (e : BitVec 3) : (setEvent e s).st = s.st := rfl
@[simp] theorem setEvent_syncDone (e : BitVec 3) : (setEvent e s).syncDone = s.syncDone := rfl
@[simp] theorem setEvent_pend (e : BitVec 3) : (setEvent e s).pend = s.pend := rfl
@[simp] theorem setEvent_line (e : BitVec 3) : (setEvent e s).line = s.line := rfl
@[simp] theorem setEvent_outRow (e : BitVec 3) : (setEvent e s).outRow = s.outRow := rfl
@[simp] theorem setEvent_tele (e : BitVec 3) : (setEvent e s).tele = s.tele := rfl
@[simp] theorem setEvent_skip (e : BitVec 3) : (setEvent e s).skip = s.skip := rfl
@[simp] theorem setEvent_probe (e : BitVec 3) : (setEvent e s).probe = s.probe := rfl
@[simp] theorem setEvent_hdr (e : BitVec 3) : (setEvent e s).hdr = s.hdr := rfl
@[simp] theorem setEvent_result (e : BitVec 3) : (setEvent e s).result = s.result := rfl
@[simp] theorem setEvent_frameValid (e : BitVec 3) : (setEvent e s).frameValid = s.frameValid := rfl
@[simp] theorem setEvent_tbufAlloc (e : BitVec 3) : (setEvent e s).tbufAlloc = s.tbufAlloc := rfl
@[simp] theorem setEvent_busHeld (e : BitVec 3) : (setEvent e s).busHeld = s.busHeld := rfl
@[simp] theorem setEvent_img (e : BitVec 3) : (setEvent e s).img = s.img := rfl
@[simp] theorem setEvent_scr (e : BitVec 3) : (setEvent e s).scr = s.scr := rfl
@[simp] theorem setEvent_tel (e : BitVec 3) : (setEvent e s).tel = s.tel := rfl
@[simp] theorem setEvent_response (e : BitVec 3) : (setEvent e s).response = s.response := rfl
@[simp] theorem setEvent_inputs (e : BitVec 3) : (setEvent e s).inputs = s.inputs := rfl
@[simp] theorem setEvent_stream (e : BitVec 3) : (setEvent e s).stream = s.stream := rfl
@[simp] theorem setEvent_pulseDone (e : BitVec 3) : (setEvent e s).pulseDone = s.pulseDone := rfl
@[simp] theorem setEvent_epoch (e : BitVec 3) : (setEvent e s).epoch = s.epoch := rfl

/-! ### acknowledge -/

@[simp] theorem acknowledge_mode (e : BitVec 3) : (acknowledge e s).mode = s.mode := rfl
@[simp] theorem acknowledge_preflight (e : BitVec 3) : (acknowledge e s).preflight = s.preflight := rfl
@[simp] theorem acknowledge_events (e : BitVec 3) : (acknowledge e s).events = s.events &&& ~~~e := rfl
@[simp] theorem acknowledge_irqEn (e : BitVec 3) : (acknowledge e s).irqEn = s.irqEn := rfl
@[simp] theorem acknowledge_busErrCause (e : BitVec 3) : (acknowledge e s).busErrCause = s.busErrCause := rfl
@[simp] theorem acknowledge_busErrAddr (e : BitVec 3) : (acknowledge e s).busErrAddr = s.busErrAddr := rfl
@[simp] theorem acknowledge_st (e : BitVec 3) : (acknowledge e s).st = s.st := rfl
@[simp] theorem acknowledge_syncDone (e : BitVec 3) : (acknowledge e s).syncDone = s.syncDone := rfl
@[simp] theorem acknowledge_pend (e : BitVec 3) : (acknowledge e s).pend = s.pend := rfl
@[simp] theorem acknowledge_line (e : BitVec 3) : (acknowledge e s).line = s.line := rfl
@[simp] theorem acknowledge_outRow (e : BitVec 3) : (acknowledge e s).outRow = s.outRow := rfl
@[simp] theorem acknowledge_tele (e : BitVec 3) : (acknowledge e s).tele = s.tele := rfl
@[simp] theorem acknowledge_skip (e : BitVec 3) : (acknowledge e s).skip = s.skip := rfl
@[simp] theorem acknowledge_probe (e : BitVec 3) : (acknowledge e s).probe = s.probe := rfl
@[simp] theorem acknowledge_hdr (e : BitVec 3) : (acknowledge e s).hdr = s.hdr := rfl
@[simp] theorem acknowledge_result (e : BitVec 3) : (acknowledge e s).result = s.result := rfl
@[simp] theorem acknowledge_frameValid (e : BitVec 3) : (acknowledge e s).frameValid = s.frameValid := rfl
@[simp] theorem acknowledge_tbufAlloc (e : BitVec 3) : (acknowledge e s).tbufAlloc = s.tbufAlloc := rfl
@[simp] theorem acknowledge_busHeld (e : BitVec 3) : (acknowledge e s).busHeld = s.busHeld := rfl
@[simp] theorem acknowledge_img (e : BitVec 3) : (acknowledge e s).img = s.img := rfl
@[simp] theorem acknowledge_scr (e : BitVec 3) : (acknowledge e s).scr = s.scr := rfl
@[simp] theorem acknowledge_tel (e : BitVec 3) : (acknowledge e s).tel = s.tel := rfl
@[simp] theorem acknowledge_response (e : BitVec 3) : (acknowledge e s).response = s.response := rfl
@[simp] theorem acknowledge_inputs (e : BitVec 3) : (acknowledge e s).inputs = s.inputs := rfl
@[simp] theorem acknowledge_stream (e : BitVec 3) : (acknowledge e s).stream = s.stream := rfl
@[simp] theorem acknowledge_pulseDone (e : BitVec 3) : (acknowledge e s).pulseDone = s.pulseDone := rfl
@[simp] theorem acknowledge_epoch (e : BitVec 3) : (acknowledge e s).epoch = s.epoch := rfl

/-! ### acquire -/

@[simp] theorem acquire_mode : (acquire s).mode = s.mode := rfl
@[simp] theorem acquire_preflight : (acquire s).preflight = s.preflight := rfl
@[simp] theorem acquire_events : (acquire s).events = s.events := rfl
@[simp] theorem acquire_irqEn : (acquire s).irqEn = s.irqEn := rfl
@[simp] theorem acquire_busErrCause : (acquire s).busErrCause = s.busErrCause := rfl
@[simp] theorem acquire_busErrAddr : (acquire s).busErrAddr = s.busErrAddr := rfl
@[simp] theorem acquire_st : (acquire s).st = s.st := rfl
@[simp] theorem acquire_syncDone : (acquire s).syncDone = s.syncDone := rfl
@[simp] theorem acquire_pend : (acquire s).pend = s.pend := rfl
@[simp] theorem acquire_line : (acquire s).line = s.line := rfl
@[simp] theorem acquire_outRow : (acquire s).outRow = s.outRow := rfl
@[simp] theorem acquire_tele : (acquire s).tele = s.tele := rfl
@[simp] theorem acquire_skip : (acquire s).skip = s.skip := rfl
@[simp] theorem acquire_probe : (acquire s).probe = s.probe := rfl
@[simp] theorem acquire_hdr : (acquire s).hdr = s.hdr := rfl
@[simp] theorem acquire_result : (acquire s).result = s.result := rfl
@[simp] theorem acquire_frameValid : (acquire s).frameValid = s.frameValid := rfl
@[simp] theorem acquire_tbufAlloc : (acquire s).tbufAlloc = s.tbufAlloc := rfl
@[simp] theorem acquire_busHeld : (acquire s).busHeld = true := rfl
@[simp] theorem acquire_img : (acquire s).img = s.img := rfl
@[simp] theorem acquire_scr : (acquire s).scr = s.scr := rfl
@[simp] theorem acquire_tel : (acquire s).tel = s.tel := rfl
@[simp] theorem acquire_response : (acquire s).response = s.response := rfl
@[simp] theorem acquire_inputs : (acquire s).inputs = s.inputs := rfl
@[simp] theorem acquire_stream : (acquire s).stream = s.stream := rfl
@[simp] theorem acquire_pulseDone : (acquire s).pulseDone = s.pulseDone := rfl
@[simp] theorem acquire_epoch : (acquire s).epoch = s.epoch := rfl

/-! ### release -/

@[simp] theorem release_mode : (release s).mode = s.mode := rfl
@[simp] theorem release_preflight : (release s).preflight = s.preflight := rfl
@[simp] theorem release_events : (release s).events = s.events := rfl
@[simp] theorem release_irqEn : (release s).irqEn = s.irqEn := rfl
@[simp] theorem release_busErrCause : (release s).busErrCause = s.busErrCause := rfl
@[simp] theorem release_busErrAddr : (release s).busErrAddr = s.busErrAddr := rfl
@[simp] theorem release_st : (release s).st = s.st := rfl
@[simp] theorem release_syncDone : (release s).syncDone = s.syncDone := rfl
@[simp] theorem release_pend : (release s).pend = s.pend := rfl
@[simp] theorem release_line : (release s).line = s.line := rfl
@[simp] theorem release_outRow : (release s).outRow = s.outRow := rfl
@[simp] theorem release_tele : (release s).tele = s.tele := rfl
@[simp] theorem release_skip : (release s).skip = s.skip := rfl
@[simp] theorem release_probe : (release s).probe = s.probe := rfl
@[simp] theorem release_hdr : (release s).hdr = s.hdr := rfl
@[simp] theorem release_result : (release s).result = s.result := rfl
@[simp] theorem release_frameValid : (release s).frameValid = s.frameValid := rfl
@[simp] theorem release_tbufAlloc : (release s).tbufAlloc = s.tbufAlloc := rfl
@[simp] theorem release_busHeld : (release s).busHeld = false := rfl
@[simp] theorem release_img : (release s).img = s.img := rfl
@[simp] theorem release_scr : (release s).scr = s.scr := rfl
@[simp] theorem release_tel : (release s).tel = s.tel := rfl
@[simp] theorem release_response : (release s).response = s.response := rfl
@[simp] theorem release_inputs : (release s).inputs = s.inputs := rfl
@[simp] theorem release_stream : (release s).stream = s.stream := rfl
@[simp] theorem release_pulseDone : (release s).pulseDone = s.pulseDone := rfl
@[simp] theorem release_epoch : (release s).epoch = s.epoch := rfl

/-! ### terminate -/

@[simp] theorem terminate_mode (c : Result) : (terminate c s).mode = s.mode := rfl
@[simp] theorem terminate_preflight (c : Result) : (terminate c s).preflight = s.preflight := rfl
@[simp] theorem terminate_events (c : Result) : (terminate c s).events = s.events ||| eventDone := rfl
@[simp] theorem terminate_irqEn (c : Result) : (terminate c s).irqEn = s.irqEn := rfl
@[simp] theorem terminate_busErrCause (c : Result) : (terminate c s).busErrCause = s.busErrCause := rfl
@[simp] theorem terminate_busErrAddr (c : Result) : (terminate c s).busErrAddr = s.busErrAddr := rfl
@[simp] theorem terminate_st (c : Result) : (terminate c s).st = .idle := rfl
@[simp] theorem terminate_syncDone (c : Result) : (terminate c s).syncDone = false := rfl
@[simp] theorem terminate_pend (c : Result) : (terminate c s).pend = .none := rfl
@[simp] theorem terminate_line (c : Result) : (terminate c s).line = s.line := rfl
@[simp] theorem terminate_outRow (c : Result) : (terminate c s).outRow = s.outRow := rfl
@[simp] theorem terminate_tele (c : Result) : (terminate c s).tele = s.tele := rfl
@[simp] theorem terminate_skip (c : Result) : (terminate c s).skip = s.skip := rfl
@[simp] theorem terminate_probe (c : Result) : (terminate c s).probe = s.probe := rfl
@[simp] theorem terminate_hdr (c : Result) : (terminate c s).hdr = s.hdr := rfl
@[simp] theorem terminate_result (c : Result) : (terminate c s).result = c := rfl
@[simp] theorem terminate_frameValid (c : Result) : (terminate c s).frameValid = decide (c = .done) := rfl
@[simp] theorem terminate_tbufAlloc (c : Result) : (terminate c s).tbufAlloc = s.tbufAlloc := rfl
@[simp] theorem terminate_busHeld (c : Result) : (terminate c s).busHeld = false := rfl
@[simp] theorem terminate_img (c : Result) : (terminate c s).img = s.img := rfl
@[simp] theorem terminate_scr (c : Result) : (terminate c s).scr = s.scr := rfl
@[simp] theorem terminate_tel (c : Result) : (terminate c s).tel = s.tel := rfl
@[simp] theorem terminate_response (c : Result) : (terminate c s).response = s.response := rfl
@[simp] theorem terminate_inputs (c : Result) : (terminate c s).inputs = s.inputs := rfl
@[simp] theorem terminate_stream (c : Result) : (terminate c s).stream = s.stream := rfl
@[simp] theorem terminate_pulseDone (c : Result) : (terminate c s).pulseDone = s.pulseDone := rfl
@[simp] theorem terminate_epoch (c : Result) : (terminate c s).epoch = s.epoch := rfl

/-! ### deliver -/

@[simp] theorem deliver_mode (b : List Byte) : (deliver b s).mode = s.mode := rfl
@[simp] theorem deliver_preflight (b : List Byte) : (deliver b s).preflight = s.preflight := rfl
@[simp] theorem deliver_events (b : List Byte) : (deliver b s).events = s.events := rfl
@[simp] theorem deliver_irqEn (b : List Byte) : (deliver b s).irqEn = s.irqEn := rfl
@[simp] theorem deliver_busErrCause (b : List Byte) : (deliver b s).busErrCause = s.busErrCause := rfl
@[simp] theorem deliver_busErrAddr (b : List Byte) : (deliver b s).busErrAddr = s.busErrAddr := rfl
@[simp] theorem deliver_st (b : List Byte) : (deliver b s).st = s.st := rfl
@[simp] theorem deliver_syncDone (b : List Byte) : (deliver b s).syncDone = s.syncDone := rfl
@[simp] theorem deliver_pend (b : List Byte) : (deliver b s).pend = s.pend := rfl
@[simp] theorem deliver_line (b : List Byte) : (deliver b s).line = s.line := rfl
@[simp] theorem deliver_outRow (b : List Byte) : (deliver b s).outRow = s.outRow := rfl
@[simp] theorem deliver_tele (b : List Byte) : (deliver b s).tele = s.tele := rfl
@[simp] theorem deliver_skip (b : List Byte) : (deliver b s).skip = s.skip := rfl
@[simp] theorem deliver_probe (b : List Byte) : (deliver b s).probe = s.probe := rfl
@[simp] theorem deliver_hdr (b : List Byte) : (deliver b s).hdr = s.hdr := rfl
@[simp] theorem deliver_result (b : List Byte) : (deliver b s).result = s.result := rfl
@[simp] theorem deliver_frameValid (b : List Byte) : (deliver b s).frameValid = s.frameValid := rfl
@[simp] theorem deliver_tbufAlloc (b : List Byte) : (deliver b s).tbufAlloc = s.tbufAlloc := rfl
@[simp] theorem deliver_busHeld (b : List Byte) : (deliver b s).busHeld = s.busHeld := rfl
@[simp] theorem deliver_img (b : List Byte) : (deliver b s).img = s.img := rfl
@[simp] theorem deliver_scr (b : List Byte) : (deliver b s).scr = s.scr := rfl
@[simp] theorem deliver_tel (b : List Byte) : (deliver b s).tel = s.tel := rfl
@[simp] theorem deliver_response (b : List Byte) : (deliver b s).response = s.response := rfl
@[simp] theorem deliver_inputs (b : List Byte) : (deliver b s).inputs = s.inputs := rfl
@[simp] theorem deliver_stream (b : List Byte) : (deliver b s).stream = s.stream ++ b := rfl
@[simp] theorem deliver_pulseDone (b : List Byte) : (deliver b s).pulseDone = s.pulseDone := rfl
@[simp] theorem deliver_epoch (b : List Byte) : (deliver b s).epoch = s.epoch := rfl

/-! ### reportPulse -/

@[simp] theorem reportPulse_mode : (reportPulse s).mode = s.mode := rfl
@[simp] theorem reportPulse_preflight : (reportPulse s).preflight = s.preflight := rfl
@[simp] theorem reportPulse_events : (reportPulse s).events = s.events := rfl
@[simp] theorem reportPulse_irqEn : (reportPulse s).irqEn = s.irqEn := rfl
@[simp] theorem reportPulse_busErrCause : (reportPulse s).busErrCause = s.busErrCause := rfl
@[simp] theorem reportPulse_busErrAddr : (reportPulse s).busErrAddr = s.busErrAddr := rfl
@[simp] theorem reportPulse_st : (reportPulse s).st = s.st := rfl
@[simp] theorem reportPulse_syncDone : (reportPulse s).syncDone = s.syncDone := rfl
@[simp] theorem reportPulse_pend : (reportPulse s).pend = s.pend := rfl
@[simp] theorem reportPulse_line : (reportPulse s).line = s.line := rfl
@[simp] theorem reportPulse_outRow : (reportPulse s).outRow = s.outRow := rfl
@[simp] theorem reportPulse_tele : (reportPulse s).tele = s.tele := rfl
@[simp] theorem reportPulse_skip : (reportPulse s).skip = s.skip := rfl
@[simp] theorem reportPulse_probe : (reportPulse s).probe = s.probe := rfl
@[simp] theorem reportPulse_hdr : (reportPulse s).hdr = s.hdr := rfl
@[simp] theorem reportPulse_result : (reportPulse s).result = s.result := rfl
@[simp] theorem reportPulse_frameValid : (reportPulse s).frameValid = s.frameValid := rfl
@[simp] theorem reportPulse_tbufAlloc : (reportPulse s).tbufAlloc = s.tbufAlloc := rfl
@[simp] theorem reportPulse_busHeld : (reportPulse s).busHeld = s.busHeld := rfl
@[simp] theorem reportPulse_img : (reportPulse s).img = s.img := rfl
@[simp] theorem reportPulse_scr : (reportPulse s).scr = s.scr := rfl
@[simp] theorem reportPulse_tel : (reportPulse s).tel = s.tel := rfl
@[simp] theorem reportPulse_response : (reportPulse s).response = s.response := rfl
@[simp] theorem reportPulse_inputs : (reportPulse s).inputs = s.inputs := rfl
@[simp] theorem reportPulse_stream : (reportPulse s).stream = s.stream := rfl
@[simp] theorem reportPulse_pulseDone : (reportPulse s).pulseDone = (s.pulseDone || (decide (s.st = .syncing) && !s.syncDone)) := rfl
@[simp] theorem reportPulse_epoch : (reportPulse s).epoch = s.epoch := rfl

/-! ### startCapture -/

@[simp] theorem startCapture_mode : (startCapture s).mode = s.mode := rfl
@[simp] theorem startCapture_preflight : (startCapture s).preflight = s.preflight := rfl
@[simp] theorem startCapture_events : (startCapture s).events = s.events := rfl
@[simp] theorem startCapture_irqEn : (startCapture s).irqEn = s.irqEn := rfl
@[simp] theorem startCapture_busErrCause : (startCapture s).busErrCause = s.busErrCause := rfl
@[simp] theorem startCapture_busErrAddr : (startCapture s).busErrAddr = s.busErrAddr := rfl
@[simp] theorem startCapture_st : (startCapture s).st = .preflight := rfl
@[simp] theorem startCapture_syncDone : (startCapture s).syncDone = false := rfl
@[simp] theorem startCapture_pend : (startCapture s).pend = .none := rfl
@[simp] theorem startCapture_line : (startCapture s).line = 0 := rfl
@[simp] theorem startCapture_outRow : (startCapture s).outRow = 0 := rfl
@[simp] theorem startCapture_tele : (startCapture s).tele = 0 := rfl
@[simp] theorem startCapture_skip : (startCapture s).skip = 0 := rfl
@[simp] theorem startCapture_probe : (startCapture s).probe = 0 := rfl
@[simp] theorem startCapture_hdr : (startCapture s).hdr = s.hdr := rfl
@[simp] theorem startCapture_result : (startCapture s).result = s.result := rfl
@[simp] theorem startCapture_frameValid : (startCapture s).frameValid = false := rfl
@[simp] theorem startCapture_tbufAlloc : (startCapture s).tbufAlloc = s.tbufAlloc := rfl
@[simp] theorem startCapture_busHeld : (startCapture s).busHeld = s.busHeld := rfl
@[simp] theorem startCapture_img : (startCapture s).img = s.img := rfl
@[simp] theorem startCapture_scr : (startCapture s).scr = s.scr := rfl
@[simp] theorem startCapture_tel : (startCapture s).tel = s.tel := rfl
@[simp] theorem startCapture_response : (startCapture s).response = s.response := rfl
@[simp] theorem startCapture_inputs : (startCapture s).inputs = s.inputs := rfl
@[simp] theorem startCapture_stream : (startCapture s).stream = s.stream := rfl
@[simp] theorem startCapture_pulseDone : (startCapture s).pulseDone = s.pulseDone := rfl
@[simp] theorem startCapture_epoch : (startCapture s).epoch = s.epoch := rfl

/-! ### enterSyncing -/

@[simp] theorem enterSyncing_mode : (enterSyncing s).mode = s.mode := rfl
@[simp] theorem enterSyncing_preflight : (enterSyncing s).preflight = s.preflight := rfl
@[simp] theorem enterSyncing_events : (enterSyncing s).events = s.events := rfl
@[simp] theorem enterSyncing_irqEn : (enterSyncing s).irqEn = s.irqEn := rfl
@[simp] theorem enterSyncing_busErrCause : (enterSyncing s).busErrCause = s.busErrCause := rfl
@[simp] theorem enterSyncing_busErrAddr : (enterSyncing s).busErrAddr = s.busErrAddr := rfl
@[simp] theorem enterSyncing_st : (enterSyncing s).st = .syncing := rfl
@[simp] theorem enterSyncing_syncDone : (enterSyncing s).syncDone = false := rfl
@[simp] theorem enterSyncing_pend : (enterSyncing s).pend = s.pend := rfl
@[simp] theorem enterSyncing_line : (enterSyncing s).line = s.line := rfl
@[simp] theorem enterSyncing_outRow : (enterSyncing s).outRow = s.outRow := rfl
@[simp] theorem enterSyncing_tele : (enterSyncing s).tele = s.tele := rfl
@[simp] theorem enterSyncing_skip : (enterSyncing s).skip = s.skip := rfl
@[simp] theorem enterSyncing_probe : (enterSyncing s).probe = s.probe := rfl
@[simp] theorem enterSyncing_hdr : (enterSyncing s).hdr = s.hdr := rfl
@[simp] theorem enterSyncing_result : (enterSyncing s).result = s.result := rfl
@[simp] theorem enterSyncing_frameValid : (enterSyncing s).frameValid = s.frameValid := rfl
@[simp] theorem enterSyncing_tbufAlloc : (enterSyncing s).tbufAlloc = s.tbufAlloc := rfl
@[simp] theorem enterSyncing_busHeld : (enterSyncing s).busHeld = true := rfl
@[simp] theorem enterSyncing_img : (enterSyncing s).img = s.img := rfl
@[simp] theorem enterSyncing_scr : (enterSyncing s).scr = s.scr := rfl
@[simp] theorem enterSyncing_tel : (enterSyncing s).tel = s.tel := rfl
@[simp] theorem enterSyncing_response : (enterSyncing s).response = s.response := rfl
@[simp] theorem enterSyncing_inputs : (enterSyncing s).inputs = s.inputs := rfl
@[simp] theorem enterSyncing_stream : (enterSyncing s).stream = s.stream := rfl
@[simp] theorem enterSyncing_pulseDone : (enterSyncing s).pulseDone = false := rfl
@[simp] theorem enterSyncing_epoch : (enterSyncing s).epoch = s.epoch := rfl

/-! ### acceptTelemetry -/

@[simp] theorem acceptTelemetry_mode : (acceptTelemetry s).mode = s.mode := rfl
@[simp] theorem acceptTelemetry_preflight : (acceptTelemetry s).preflight = s.preflight := rfl
@[simp] theorem acceptTelemetry_events : (acceptTelemetry s).events = s.events := rfl
@[simp] theorem acceptTelemetry_irqEn : (acceptTelemetry s).irqEn = s.irqEn := rfl
@[simp] theorem acceptTelemetry_busErrCause : (acceptTelemetry s).busErrCause = s.busErrCause := rfl
@[simp] theorem acceptTelemetry_busErrAddr : (acceptTelemetry s).busErrAddr = s.busErrAddr := rfl
@[simp] theorem acceptTelemetry_st : (acceptTelemetry s).st = s.st := rfl
@[simp] theorem acceptTelemetry_syncDone : (acceptTelemetry s).syncDone = s.syncDone := rfl
@[simp] theorem acceptTelemetry_pend : (acceptTelemetry s).pend = (if s.tele = 0 then .telStore else .telDrop) := rfl
@[simp] theorem acceptTelemetry_line : (acceptTelemetry s).line = s.line := rfl
@[simp] theorem acceptTelemetry_outRow : (acceptTelemetry s).outRow = s.outRow := rfl
@[simp] theorem acceptTelemetry_tele : (acceptTelemetry s).tele = s.tele := rfl
@[simp] theorem acceptTelemetry_skip : (acceptTelemetry s).skip = s.skip := rfl
@[simp] theorem acceptTelemetry_probe : (acceptTelemetry s).probe = s.probe := rfl
@[simp] theorem acceptTelemetry_hdr : (acceptTelemetry s).hdr = s.hdr := rfl
@[simp] theorem acceptTelemetry_result : (acceptTelemetry s).result = s.result := rfl
@[simp] theorem acceptTelemetry_frameValid : (acceptTelemetry s).frameValid = s.frameValid := rfl
@[simp] theorem acceptTelemetry_tbufAlloc : (acceptTelemetry s).tbufAlloc = s.tbufAlloc := rfl
@[simp] theorem acceptTelemetry_busHeld : (acceptTelemetry s).busHeld = s.busHeld := rfl
@[simp] theorem acceptTelemetry_img : (acceptTelemetry s).img = s.img := rfl
@[simp] theorem acceptTelemetry_scr : (acceptTelemetry s).scr = s.scr := rfl
@[simp] theorem acceptTelemetry_tel : (acceptTelemetry s).tel = s.tel := rfl
@[simp] theorem acceptTelemetry_response : (acceptTelemetry s).response = s.response := rfl
@[simp] theorem acceptTelemetry_inputs : (acceptTelemetry s).inputs = s.inputs := rfl
@[simp] theorem acceptTelemetry_stream : (acceptTelemetry s).stream = s.stream := rfl
@[simp] theorem acceptTelemetry_pulseDone : (acceptTelemetry s).pulseDone = s.pulseDone := rfl
@[simp] theorem acceptTelemetry_epoch : (acceptTelemetry s).epoch = s.epoch := rfl

/-! ### acceptImage -/

@[simp] theorem acceptImage_mode : (acceptImage s).mode = s.mode := rfl
@[simp] theorem acceptImage_preflight : (acceptImage s).preflight = s.preflight := rfl
@[simp] theorem acceptImage_events : (acceptImage s).events = s.events := rfl
@[simp] theorem acceptImage_irqEn : (acceptImage s).irqEn = s.irqEn := rfl
@[simp] theorem acceptImage_busErrCause : (acceptImage s).busErrCause = s.busErrCause := rfl
@[simp] theorem acceptImage_busErrAddr : (acceptImage s).busErrAddr = s.busErrAddr := rfl
@[simp] theorem acceptImage_st : (acceptImage s).st = s.st := rfl
@[simp] theorem acceptImage_syncDone : (acceptImage s).syncDone = s.syncDone := rfl
@[simp] theorem acceptImage_pend : (acceptImage s).pend = .img := rfl
@[simp] theorem acceptImage_line : (acceptImage s).line = s.line := rfl
@[simp] theorem acceptImage_outRow : (acceptImage s).outRow = s.outRow := rfl
@[simp] theorem acceptImage_tele : (acceptImage s).tele = s.tele := rfl
@[simp] theorem acceptImage_skip : (acceptImage s).skip = s.skip := rfl
@[simp] theorem acceptImage_probe : (acceptImage s).probe = s.probe := rfl
@[simp] theorem acceptImage_hdr : (acceptImage s).hdr = s.hdr := rfl
@[simp] theorem acceptImage_result : (acceptImage s).result = s.result := rfl
@[simp] theorem acceptImage_frameValid : (acceptImage s).frameValid = s.frameValid := rfl
@[simp] theorem acceptImage_tbufAlloc : (acceptImage s).tbufAlloc = s.tbufAlloc := rfl
@[simp] theorem acceptImage_busHeld : (acceptImage s).busHeld = s.busHeld := rfl
@[simp] theorem acceptImage_img : (acceptImage s).img = s.img := rfl
@[simp] theorem acceptImage_scr : (acceptImage s).scr = s.scr := rfl
@[simp] theorem acceptImage_tel : (acceptImage s).tel = s.tel := rfl
@[simp] theorem acceptImage_response : (acceptImage s).response = s.response := rfl
@[simp] theorem acceptImage_inputs : (acceptImage s).inputs = s.inputs := rfl
@[simp] theorem acceptImage_stream : (acceptImage s).stream = s.stream := rfl
@[simp] theorem acceptImage_pulseDone : (acceptImage s).pulseDone = s.pulseDone := rfl
@[simp] theorem acceptImage_epoch : (acceptImage s).epoch = s.epoch := rfl

/-! ### toStreaming -/

@[simp] theorem toStreaming_mode : (toStreaming s).mode = s.mode := rfl
@[simp] theorem toStreaming_preflight : (toStreaming s).preflight = s.preflight := rfl
@[simp] theorem toStreaming_events : (toStreaming s).events = s.events := rfl
@[simp] theorem toStreaming_irqEn : (toStreaming s).irqEn = s.irqEn := rfl
@[simp] theorem toStreaming_busErrCause : (toStreaming s).busErrCause = s.busErrCause := rfl
@[simp] theorem toStreaming_busErrAddr : (toStreaming s).busErrAddr = s.busErrAddr := rfl
@[simp] theorem toStreaming_st : (toStreaming s).st = .streaming := rfl
@[simp] theorem toStreaming_syncDone : (toStreaming s).syncDone = s.syncDone := rfl
@[simp] theorem toStreaming_pend : (toStreaming s).pend = s.pend := rfl
@[simp] theorem toStreaming_line : (toStreaming s).line = s.line := rfl
@[simp] theorem toStreaming_outRow : (toStreaming s).outRow = s.outRow := rfl
@[simp] theorem toStreaming_tele : (toStreaming s).tele = s.tele := rfl
@[simp] theorem toStreaming_skip : (toStreaming s).skip = s.skip := rfl
@[simp] theorem toStreaming_probe : (toStreaming s).probe = s.probe := rfl
@[simp] theorem toStreaming_hdr : (toStreaming s).hdr = s.hdr := rfl
@[simp] theorem toStreaming_result : (toStreaming s).result = s.result := rfl
@[simp] theorem toStreaming_frameValid : (toStreaming s).frameValid = s.frameValid := rfl
@[simp] theorem toStreaming_tbufAlloc : (toStreaming s).tbufAlloc = s.tbufAlloc := rfl
@[simp] theorem toStreaming_busHeld : (toStreaming s).busHeld = s.busHeld := rfl
@[simp] theorem toStreaming_img : (toStreaming s).img = s.img := rfl
@[simp] theorem toStreaming_scr : (toStreaming s).scr = s.scr := rfl
@[simp] theorem toStreaming_tel : (toStreaming s).tel = s.tel := rfl
@[simp] theorem toStreaming_response : (toStreaming s).response = s.response := rfl
@[simp] theorem toStreaming_inputs : (toStreaming s).inputs = s.inputs := rfl
@[simp] theorem toStreaming_stream : (toStreaming s).stream = s.stream := rfl
@[simp] theorem toStreaming_pulseDone : (toStreaming s).pulseDone = s.pulseDone := rfl
@[simp] theorem toStreaming_epoch : (toStreaming s).epoch = s.epoch := rfl

/-! ### outOfSync -/

@[simp] theorem outOfSync_mode : (outOfSync s).mode = s.mode := rfl
@[simp] theorem outOfSync_preflight : (outOfSync s).preflight = s.preflight := rfl
@[simp] theorem outOfSync_events : (outOfSync s).events = s.events := rfl
@[simp] theorem outOfSync_irqEn : (outOfSync s).irqEn = s.irqEn := rfl
@[simp] theorem outOfSync_busErrCause : (outOfSync s).busErrCause = s.busErrCause := rfl
@[simp] theorem outOfSync_busErrAddr : (outOfSync s).busErrAddr = s.busErrAddr := rfl
@[simp] theorem outOfSync_st : (outOfSync s).st = .resyncing := rfl
@[simp] theorem outOfSync_syncDone : (outOfSync s).syncDone = s.syncDone := rfl
@[simp] theorem outOfSync_pend : (outOfSync s).pend = s.pend := rfl
@[simp] theorem outOfSync_line : (outOfSync s).line = s.line := rfl
@[simp] theorem outOfSync_outRow : (outOfSync s).outRow = s.outRow := rfl
@[simp] theorem outOfSync_tele : (outOfSync s).tele = s.tele := rfl
@[simp] theorem outOfSync_skip : (outOfSync s).skip = s.skip := rfl
@[simp] theorem outOfSync_probe : (outOfSync s).probe = 0 := rfl
@[simp] theorem outOfSync_hdr : (outOfSync s).hdr = s.hdr := rfl
@[simp] theorem outOfSync_result : (outOfSync s).result = s.result := rfl
@[simp] theorem outOfSync_frameValid : (outOfSync s).frameValid = s.frameValid := rfl
@[simp] theorem outOfSync_tbufAlloc : (outOfSync s).tbufAlloc = s.tbufAlloc := rfl
@[simp] theorem outOfSync_busHeld : (outOfSync s).busHeld = s.busHeld := rfl
@[simp] theorem outOfSync_img : (outOfSync s).img = s.img := rfl
@[simp] theorem outOfSync_scr : (outOfSync s).scr = s.scr := rfl
@[simp] theorem outOfSync_tel : (outOfSync s).tel = s.tel := rfl
@[simp] theorem outOfSync_response : (outOfSync s).response = s.response := rfl
@[simp] theorem outOfSync_inputs : (outOfSync s).inputs = s.inputs := rfl
@[simp] theorem outOfSync_stream : (outOfSync s).stream = s.stream := rfl
@[simp] theorem outOfSync_pulseDone : (outOfSync s).pulseDone = s.pulseDone := rfl
@[simp] theorem outOfSync_epoch : (outOfSync s).epoch = s.epoch := rfl

/-! ### latchHeader -/

@[simp] theorem latchHeader_mode (h : BitVec 32) : (latchHeader h s).mode = s.mode := rfl
@[simp] theorem latchHeader_preflight (h : BitVec 32) : (latchHeader h s).preflight = s.preflight := rfl
@[simp] theorem latchHeader_events (h : BitVec 32) : (latchHeader h s).events = s.events := rfl
@[simp] theorem latchHeader_irqEn (h : BitVec 32) : (latchHeader h s).irqEn = s.irqEn := rfl
@[simp] theorem latchHeader_busErrCause (h : BitVec 32) : (latchHeader h s).busErrCause = s.busErrCause := rfl
@[simp] theorem latchHeader_busErrAddr (h : BitVec 32) : (latchHeader h s).busErrAddr = s.busErrAddr := rfl
@[simp] theorem latchHeader_st (h : BitVec 32) : (latchHeader h s).st = s.st := rfl
@[simp] theorem latchHeader_syncDone (h : BitVec 32) : (latchHeader h s).syncDone = false := rfl
@[simp] theorem latchHeader_pend (h : BitVec 32) : (latchHeader h s).pend = s.pend := rfl
@[simp] theorem latchHeader_line (h : BitVec 32) : (latchHeader h s).line = s.line := rfl
@[simp] theorem latchHeader_outRow (h : BitVec 32) : (latchHeader h s).outRow = s.outRow := rfl
@[simp] theorem latchHeader_tele (h : BitVec 32) : (latchHeader h s).tele = s.tele := rfl
@[simp] theorem latchHeader_skip (h : BitVec 32) : (latchHeader h s).skip = s.skip := rfl
@[simp] theorem latchHeader_probe (h : BitVec 32) : (latchHeader h s).probe = s.probe := rfl
@[simp] theorem latchHeader_hdr (h : BitVec 32) : (latchHeader h s).hdr = h := rfl
@[simp] theorem latchHeader_result (h : BitVec 32) : (latchHeader h s).result = s.result := rfl
@[simp] theorem latchHeader_frameValid (h : BitVec 32) : (latchHeader h s).frameValid = s.frameValid := rfl
@[simp] theorem latchHeader_tbufAlloc (h : BitVec 32) : (latchHeader h s).tbufAlloc = s.tbufAlloc := rfl
@[simp] theorem latchHeader_busHeld (h : BitVec 32) : (latchHeader h s).busHeld = s.busHeld := rfl
@[simp] theorem latchHeader_img (h : BitVec 32) : (latchHeader h s).img = s.img := rfl
@[simp] theorem latchHeader_scr (h : BitVec 32) : (latchHeader h s).scr = s.scr := rfl
@[simp] theorem latchHeader_tel (h : BitVec 32) : (latchHeader h s).tel = s.tel := rfl
@[simp] theorem latchHeader_response (h : BitVec 32) : (latchHeader h s).response = s.response := rfl
@[simp] theorem latchHeader_inputs (h : BitVec 32) : (latchHeader h s).inputs = s.inputs := rfl
@[simp] theorem latchHeader_stream (h : BitVec 32) : (latchHeader h s).stream = s.stream := rfl
@[simp] theorem latchHeader_pulseDone (h : BitVec 32) : (latchHeader h s).pulseDone = s.pulseDone := rfl
@[simp] theorem latchHeader_epoch (h : BitVec 32) : (latchHeader h s).epoch = s.epoch := rfl

/-! ### latchProbe -/

@[simp] theorem latchProbe_mode (h : BitVec 32) : (latchProbe h s).mode = s.mode := rfl
@[simp] theorem latchProbe_preflight (h : BitVec 32) : (latchProbe h s).preflight = s.preflight := rfl
@[simp] theorem latchProbe_events (h : BitVec 32) : (latchProbe h s).events = s.events := rfl
@[simp] theorem latchProbe_irqEn (h : BitVec 32) : (latchProbe h s).irqEn = s.irqEn := rfl
@[simp] theorem latchProbe_busErrCause (h : BitVec 32) : (latchProbe h s).busErrCause = s.busErrCause := rfl
@[simp] theorem latchProbe_busErrAddr (h : BitVec 32) : (latchProbe h s).busErrAddr = s.busErrAddr := rfl
@[simp] theorem latchProbe_st (h : BitVec 32) : (latchProbe h s).st = s.st := rfl
@[simp] theorem latchProbe_syncDone (h : BitVec 32) : (latchProbe h s).syncDone = s.syncDone := rfl
@[simp] theorem latchProbe_pend (h : BitVec 32) : (latchProbe h s).pend = s.pend := rfl
@[simp] theorem latchProbe_line (h : BitVec 32) : (latchProbe h s).line = s.line := rfl
@[simp] theorem latchProbe_outRow (h : BitVec 32) : (latchProbe h s).outRow = s.outRow := rfl
@[simp] theorem latchProbe_tele (h : BitVec 32) : (latchProbe h s).tele = s.tele := rfl
@[simp] theorem latchProbe_skip (h : BitVec 32) : (latchProbe h s).skip = s.skip := rfl
@[simp] theorem latchProbe_probe (h : BitVec 32) : (latchProbe h s).probe = s.probe + 1 := rfl
@[simp] theorem latchProbe_hdr (h : BitVec 32) : (latchProbe h s).hdr = h := rfl
@[simp] theorem latchProbe_result (h : BitVec 32) : (latchProbe h s).result = s.result := rfl
@[simp] theorem latchProbe_frameValid (h : BitVec 32) : (latchProbe h s).frameValid = s.frameValid := rfl
@[simp] theorem latchProbe_tbufAlloc (h : BitVec 32) : (latchProbe h s).tbufAlloc = s.tbufAlloc := rfl
@[simp] theorem latchProbe_busHeld (h : BitVec 32) : (latchProbe h s).busHeld = s.busHeld := rfl
@[simp] theorem latchProbe_img (h : BitVec 32) : (latchProbe h s).img = s.img := rfl
@[simp] theorem latchProbe_scr (h : BitVec 32) : (latchProbe h s).scr = s.scr := rfl
@[simp] theorem latchProbe_tel (h : BitVec 32) : (latchProbe h s).tel = s.tel := rfl
@[simp] theorem latchProbe_response (h : BitVec 32) : (latchProbe h s).response = s.response := rfl
@[simp] theorem latchProbe_inputs (h : BitVec 32) : (latchProbe h s).inputs = s.inputs := rfl
@[simp] theorem latchProbe_stream (h : BitVec 32) : (latchProbe h s).stream = s.stream := rfl
@[simp] theorem latchProbe_pulseDone (h : BitVec 32) : (latchProbe h s).pulseDone = s.pulseDone := rfl
@[simp] theorem latchProbe_epoch (h : BitVec 32) : (latchProbe h s).epoch = s.epoch := rfl

/-! ### advanceLine -/

@[simp] theorem advanceLine_mode : (advanceLine s).mode = s.mode := rfl
@[simp] theorem advanceLine_preflight : (advanceLine s).preflight = s.preflight := rfl
@[simp] theorem advanceLine_events : (advanceLine s).events = s.events := rfl
@[simp] theorem advanceLine_irqEn : (advanceLine s).irqEn = s.irqEn := rfl
@[simp] theorem advanceLine_busErrCause : (advanceLine s).busErrCause = s.busErrCause := rfl
@[simp] theorem advanceLine_busErrAddr : (advanceLine s).busErrAddr = s.busErrAddr := rfl
@[simp] theorem advanceLine_st : (advanceLine s).st = s.st := rfl
@[simp] theorem advanceLine_syncDone : (advanceLine s).syncDone = s.syncDone := rfl
@[simp] theorem advanceLine_pend : (advanceLine s).pend = s.pend := rfl
@[simp] theorem advanceLine_line : (advanceLine s).line = s.line + 1 := rfl
@[simp] theorem advanceLine_outRow : (advanceLine s).outRow = s.outRow := rfl
@[simp] theorem advanceLine_tele : (advanceLine s).tele = s.tele := rfl
@[simp] theorem advanceLine_skip : (advanceLine s).skip = s.skip := rfl
@[simp] theorem advanceLine_probe : (advanceLine s).probe = s.probe := rfl
@[simp] theorem advanceLine_hdr : (advanceLine s).hdr = s.hdr := rfl
@[simp] theorem advanceLine_result : (advanceLine s).result = s.result := rfl
@[simp] theorem advanceLine_frameValid : (advanceLine s).frameValid = s.frameValid := rfl
@[simp] theorem advanceLine_tbufAlloc : (advanceLine s).tbufAlloc = s.tbufAlloc := rfl
@[simp] theorem advanceLine_busHeld : (advanceLine s).busHeld = s.busHeld := rfl
@[simp] theorem advanceLine_img : (advanceLine s).img = s.img := rfl
@[simp] theorem advanceLine_scr : (advanceLine s).scr = s.scr := rfl
@[simp] theorem advanceLine_tel : (advanceLine s).tel = s.tel := rfl
@[simp] theorem advanceLine_response : (advanceLine s).response = s.response := rfl
@[simp] theorem advanceLine_inputs : (advanceLine s).inputs = s.inputs := rfl
@[simp] theorem advanceLine_stream : (advanceLine s).stream = s.stream := rfl
@[simp] theorem advanceLine_pulseDone : (advanceLine s).pulseDone = s.pulseDone := rfl
@[simp] theorem advanceLine_epoch : (advanceLine s).epoch = s.epoch := rfl

/-! ### advanceRow -/

@[simp] theorem advanceRow_mode : (advanceRow s).mode = s.mode := rfl
@[simp] theorem advanceRow_preflight : (advanceRow s).preflight = s.preflight := rfl
@[simp] theorem advanceRow_events : (advanceRow s).events = s.events := rfl
@[simp] theorem advanceRow_irqEn : (advanceRow s).irqEn = s.irqEn := rfl
@[simp] theorem advanceRow_busErrCause : (advanceRow s).busErrCause = s.busErrCause := rfl
@[simp] theorem advanceRow_busErrAddr : (advanceRow s).busErrAddr = s.busErrAddr := rfl
@[simp] theorem advanceRow_st : (advanceRow s).st = s.st := rfl
@[simp] theorem advanceRow_syncDone : (advanceRow s).syncDone = s.syncDone := rfl
@[simp] theorem advanceRow_pend : (advanceRow s).pend = s.pend := rfl
@[simp] theorem advanceRow_line : (advanceRow s).line = s.line := rfl
@[simp] theorem advanceRow_outRow : (advanceRow s).outRow = s.outRow + 1 := rfl
@[simp] theorem advanceRow_tele : (advanceRow s).tele = s.tele := rfl
@[simp] theorem advanceRow_skip : (advanceRow s).skip = s.skip := rfl
@[simp] theorem advanceRow_probe : (advanceRow s).probe = s.probe := rfl
@[simp] theorem advanceRow_hdr : (advanceRow s).hdr = s.hdr := rfl
@[simp] theorem advanceRow_result : (advanceRow s).result = s.result := rfl
@[simp] theorem advanceRow_frameValid : (advanceRow s).frameValid = s.frameValid := rfl
@[simp] theorem advanceRow_tbufAlloc : (advanceRow s).tbufAlloc = s.tbufAlloc := rfl
@[simp] theorem advanceRow_busHeld : (advanceRow s).busHeld = s.busHeld := rfl
@[simp] theorem advanceRow_img : (advanceRow s).img = s.img := rfl
@[simp] theorem advanceRow_scr : (advanceRow s).scr = s.scr := rfl
@[simp] theorem advanceRow_tel : (advanceRow s).tel = s.tel := rfl
@[simp] theorem advanceRow_response : (advanceRow s).response = s.response := rfl
@[simp] theorem advanceRow_inputs : (advanceRow s).inputs = s.inputs := rfl
@[simp] theorem advanceRow_stream : (advanceRow s).stream = s.stream := rfl
@[simp] theorem advanceRow_pulseDone : (advanceRow s).pulseDone = s.pulseDone := rfl
@[simp] theorem advanceRow_epoch : (advanceRow s).epoch = s.epoch := rfl

/-! ### advanceTele -/

@[simp] theorem advanceTele_mode : (advanceTele s).mode = s.mode := rfl
@[simp] theorem advanceTele_preflight : (advanceTele s).preflight = s.preflight := rfl
@[simp] theorem advanceTele_events : (advanceTele s).events = s.events := rfl
@[simp] theorem advanceTele_irqEn : (advanceTele s).irqEn = s.irqEn := rfl
@[simp] theorem advanceTele_busErrCause : (advanceTele s).busErrCause = s.busErrCause := rfl
@[simp] theorem advanceTele_busErrAddr : (advanceTele s).busErrAddr = s.busErrAddr := rfl
@[simp] theorem advanceTele_st : (advanceTele s).st = s.st := rfl
@[simp] theorem advanceTele_syncDone : (advanceTele s).syncDone = s.syncDone := rfl
@[simp] theorem advanceTele_pend : (advanceTele s).pend = s.pend := rfl
@[simp] theorem advanceTele_line : (advanceTele s).line = s.line := rfl
@[simp] theorem advanceTele_outRow : (advanceTele s).outRow = s.outRow := rfl
@[simp] theorem advanceTele_tele : (advanceTele s).tele = s.tele + 1 := rfl
@[simp] theorem advanceTele_skip : (advanceTele s).skip = s.skip := rfl
@[simp] theorem advanceTele_probe : (advanceTele s).probe = s.probe := rfl
@[simp] theorem advanceTele_hdr : (advanceTele s).hdr = s.hdr := rfl
@[simp] theorem advanceTele_result : (advanceTele s).result = s.result := rfl
@[simp] theorem advanceTele_frameValid : (advanceTele s).frameValid = s.frameValid := rfl
@[simp] theorem advanceTele_tbufAlloc : (advanceTele s).tbufAlloc = s.tbufAlloc := rfl
@[simp] theorem advanceTele_busHeld : (advanceTele s).busHeld = s.busHeld := rfl
@[simp] theorem advanceTele_img : (advanceTele s).img = s.img := rfl
@[simp] theorem advanceTele_scr : (advanceTele s).scr = s.scr := rfl
@[simp] theorem advanceTele_tel : (advanceTele s).tel = s.tel := rfl
@[simp] theorem advanceTele_response : (advanceTele s).response = s.response := rfl
@[simp] theorem advanceTele_inputs : (advanceTele s).inputs = s.inputs := rfl
@[simp] theorem advanceTele_stream : (advanceTele s).stream = s.stream := rfl
@[simp] theorem advanceTele_pulseDone : (advanceTele s).pulseDone = s.pulseDone := rfl
@[simp] theorem advanceTele_epoch : (advanceTele s).epoch = s.epoch := rfl

/-! ### queueFirst -/

@[simp] theorem queueFirst_mode (x : Input) : (queueFirst x s).mode = s.mode := rfl
@[simp] theorem queueFirst_preflight (x : Input) : (queueFirst x s).preflight = s.preflight := rfl
@[simp] theorem queueFirst_events (x : Input) : (queueFirst x s).events = s.events := rfl
@[simp] theorem queueFirst_irqEn (x : Input) : (queueFirst x s).irqEn = s.irqEn := rfl
@[simp] theorem queueFirst_busErrCause (x : Input) : (queueFirst x s).busErrCause = s.busErrCause := rfl
@[simp] theorem queueFirst_busErrAddr (x : Input) : (queueFirst x s).busErrAddr = s.busErrAddr := rfl
@[simp] theorem queueFirst_st (x : Input) : (queueFirst x s).st = s.st := rfl
@[simp] theorem queueFirst_syncDone (x : Input) : (queueFirst x s).syncDone = s.syncDone := rfl
@[simp] theorem queueFirst_pend (x : Input) : (queueFirst x s).pend = s.pend := rfl
@[simp] theorem queueFirst_line (x : Input) : (queueFirst x s).line = s.line := rfl
@[simp] theorem queueFirst_outRow (x : Input) : (queueFirst x s).outRow = s.outRow := rfl
@[simp] theorem queueFirst_tele (x : Input) : (queueFirst x s).tele = s.tele := rfl
@[simp] theorem queueFirst_skip (x : Input) : (queueFirst x s).skip = s.skip := rfl
@[simp] theorem queueFirst_probe (x : Input) : (queueFirst x s).probe = s.probe := rfl
@[simp] theorem queueFirst_hdr (x : Input) : (queueFirst x s).hdr = s.hdr := rfl
@[simp] theorem queueFirst_result (x : Input) : (queueFirst x s).result = s.result := rfl
@[simp] theorem queueFirst_frameValid (x : Input) : (queueFirst x s).frameValid = s.frameValid := rfl
@[simp] theorem queueFirst_tbufAlloc (x : Input) : (queueFirst x s).tbufAlloc = s.tbufAlloc := rfl
@[simp] theorem queueFirst_busHeld (x : Input) : (queueFirst x s).busHeld = s.busHeld := rfl
@[simp] theorem queueFirst_img (x : Input) : (queueFirst x s).img = s.img := rfl
@[simp] theorem queueFirst_scr (x : Input) : (queueFirst x s).scr = s.scr := rfl
@[simp] theorem queueFirst_tel (x : Input) : (queueFirst x s).tel = s.tel := rfl
@[simp] theorem queueFirst_response (x : Input) : (queueFirst x s).response = s.response := rfl
@[simp] theorem queueFirst_inputs (x : Input) : (queueFirst x s).inputs = x :: s.inputs := rfl
@[simp] theorem queueFirst_stream (x : Input) : (queueFirst x s).stream = s.stream := rfl
@[simp] theorem queueFirst_pulseDone (x : Input) : (queueFirst x s).pulseDone = s.pulseDone := rfl
@[simp] theorem queueFirst_epoch (x : Input) : (queueFirst x s).epoch = s.epoch := rfl

/-! ### setRam: the RAMs by their names, every other field untouched -/

@[simp] theorem setRam_mode (r : Ram) (m : Memory) : (setRam r m s).mode = s.mode := by cases r <;> rfl
@[simp] theorem setRam_preflight (r : Ram) (m : Memory) : (setRam r m s).preflight = s.preflight := by cases r <;> rfl
@[simp] theorem setRam_events (r : Ram) (m : Memory) : (setRam r m s).events = s.events := by cases r <;> rfl
@[simp] theorem setRam_irqEn (r : Ram) (m : Memory) : (setRam r m s).irqEn = s.irqEn := by cases r <;> rfl
@[simp] theorem setRam_busErrCause (r : Ram) (m : Memory) : (setRam r m s).busErrCause = s.busErrCause := by cases r <;> rfl
@[simp] theorem setRam_busErrAddr (r : Ram) (m : Memory) : (setRam r m s).busErrAddr = s.busErrAddr := by cases r <;> rfl
@[simp] theorem setRam_st (r : Ram) (m : Memory) : (setRam r m s).st = s.st := by cases r <;> rfl
@[simp] theorem setRam_syncDone (r : Ram) (m : Memory) : (setRam r m s).syncDone = s.syncDone := by cases r <;> rfl
@[simp] theorem setRam_pend (r : Ram) (m : Memory) : (setRam r m s).pend = s.pend := by cases r <;> rfl
@[simp] theorem setRam_line (r : Ram) (m : Memory) : (setRam r m s).line = s.line := by cases r <;> rfl
@[simp] theorem setRam_outRow (r : Ram) (m : Memory) : (setRam r m s).outRow = s.outRow := by cases r <;> rfl
@[simp] theorem setRam_tele (r : Ram) (m : Memory) : (setRam r m s).tele = s.tele := by cases r <;> rfl
@[simp] theorem setRam_skip (r : Ram) (m : Memory) : (setRam r m s).skip = s.skip := by cases r <;> rfl
@[simp] theorem setRam_probe (r : Ram) (m : Memory) : (setRam r m s).probe = s.probe := by cases r <;> rfl
@[simp] theorem setRam_hdr (r : Ram) (m : Memory) : (setRam r m s).hdr = s.hdr := by cases r <;> rfl
@[simp] theorem setRam_result (r : Ram) (m : Memory) : (setRam r m s).result = s.result := by cases r <;> rfl
@[simp] theorem setRam_frameValid (r : Ram) (m : Memory) : (setRam r m s).frameValid = s.frameValid := by cases r <;> rfl
@[simp] theorem setRam_tbufAlloc (r : Ram) (m : Memory) : (setRam r m s).tbufAlloc = s.tbufAlloc := by cases r <;> rfl
@[simp] theorem setRam_busHeld (r : Ram) (m : Memory) : (setRam r m s).busHeld = s.busHeld := by cases r <;> rfl
@[simp] theorem setRam_response (r : Ram) (m : Memory) : (setRam r m s).response = s.response := by cases r <;> rfl
@[simp] theorem setRam_inputs (r : Ram) (m : Memory) : (setRam r m s).inputs = s.inputs := by cases r <;> rfl
@[simp] theorem setRam_stream (r : Ram) (m : Memory) : (setRam r m s).stream = s.stream := by cases r <;> rfl
@[simp] theorem setRam_pulseDone (r : Ram) (m : Memory) : (setRam r m s).pulseDone = s.pulseDone := by cases r <;> rfl
@[simp] theorem setRam_epoch (r : Ram) (m : Memory) : (setRam r m s).epoch = s.epoch := by cases r <;> rfl

@[simp] theorem ramCells_setRam_same (r : Ram) (m : Memory) : ramCells r (setRam r m s) = m := by cases r <;> rfl

theorem ramCells_setRam_other (r q : Ram) (m : Memory) (h : r ≠ q) : ramCells q (setRam r m s) = ramCells q s := by
  cases r <;> cases q <;> first | rfl | exact absurd rfl h

/-! ### blockReset: the reset state but for the schedule and the count of resets -/

@[simp] theorem blockReset_mode : (blockReset s).mode = State.reset.mode := rfl
@[simp] theorem blockReset_preflight : (blockReset s).preflight = State.reset.preflight := rfl
@[simp] theorem blockReset_events : (blockReset s).events = State.reset.events := rfl
@[simp] theorem blockReset_irqEn : (blockReset s).irqEn = State.reset.irqEn := rfl
@[simp] theorem blockReset_busErrCause : (blockReset s).busErrCause = State.reset.busErrCause := rfl
@[simp] theorem blockReset_busErrAddr : (blockReset s).busErrAddr = State.reset.busErrAddr := rfl
@[simp] theorem blockReset_st : (blockReset s).st = State.reset.st := rfl
@[simp] theorem blockReset_syncDone : (blockReset s).syncDone = State.reset.syncDone := rfl
@[simp] theorem blockReset_pend : (blockReset s).pend = State.reset.pend := rfl
@[simp] theorem blockReset_line : (blockReset s).line = State.reset.line := rfl
@[simp] theorem blockReset_outRow : (blockReset s).outRow = State.reset.outRow := rfl
@[simp] theorem blockReset_tele : (blockReset s).tele = State.reset.tele := rfl
@[simp] theorem blockReset_skip : (blockReset s).skip = State.reset.skip := rfl
@[simp] theorem blockReset_probe : (blockReset s).probe = State.reset.probe := rfl
@[simp] theorem blockReset_hdr : (blockReset s).hdr = State.reset.hdr := rfl
@[simp] theorem blockReset_result : (blockReset s).result = State.reset.result := rfl
@[simp] theorem blockReset_frameValid : (blockReset s).frameValid = State.reset.frameValid := rfl
@[simp] theorem blockReset_tbufAlloc : (blockReset s).tbufAlloc = State.reset.tbufAlloc := rfl
@[simp] theorem blockReset_busHeld : (blockReset s).busHeld = State.reset.busHeld := rfl
@[simp] theorem blockReset_img : (blockReset s).img = State.reset.img := rfl
@[simp] theorem blockReset_scr : (blockReset s).scr = State.reset.scr := rfl
@[simp] theorem blockReset_tel : (blockReset s).tel = State.reset.tel := rfl
@[simp] theorem blockReset_response : (blockReset s).response = State.reset.response := rfl
@[simp] theorem blockReset_inputs : (blockReset s).inputs = s.inputs := rfl
@[simp] theorem blockReset_stream : (blockReset s).stream = State.reset.stream := rfl
@[simp] theorem blockReset_pulseDone : (blockReset s).pulseDone = State.reset.pulseDone := rfl
@[simp] theorem blockReset_epoch : (blockReset s).epoch = s.epoch + 1 := rfl

end Sys2Proof.Machine
end

