-- ==== Sys2Proof/Laws/Memory.lean ====
section
/-! SUPPORT. What a memory write does, once: the bytes read back, the bytes left alone, and the canonical form kept
(10_state.md R70, R72; log 4). -/

namespace Sys2Proof.Machine

/-! ## Reading after a write -/

theorem Memory.get_append (m n : Memory) (a : Nat) : Memory.get (m ++ n) a = (Memory.get m a).or (Memory.get n a) := by
  induction m with
  | nil => rfl
  | cons c m ih =>
    obtain ⟨b, v⟩ := c
    by_cases h : b = a
    · simp [Memory.get, h]
    · simpa [Memory.get, h] using ih

theorem Memory.get_filter (p : Nat → Bool) (m : Memory) (a : Nat) :
    Memory.get (m.filter fun c => p c.1) a = if p a then Memory.get m a else none := by
  induction m with
  | nil => simp [Memory.get]
  | cons c m ih =>
    obtain ⟨b, v⟩ := c
    by_cases hb : p b <;> by_cases h : b = a
    · subst h; simp [hb, Memory.get]
    · simpa [hb, h, Memory.get] using ih
    · subst h; simpa [hb, Memory.get] using ih
    · simpa [hb, h, Memory.get] using ih

theorem Memory.get_below (m : Memory) (off a : Nat) : (m.below off).get a = if a < off then m.get a else none := by
  simpa [Memory.below] using Memory.get_filter (fun b => decide (b < off)) m a

theorem Memory.get_above (m : Memory) (off a : Nat) : (m.above off).get a = if off ≤ a then m.get a else none := by
  simpa [Memory.above] using Memory.get_filter (fun b => decide (off ≤ b)) m a

theorem get_cellsFrom (bytes : List Byte) (off a : Nat) :
    Memory.get (cellsFrom off bytes) a = if off ≤ a then bytes[a - off]? else none := by
  induction bytes generalizing off with
  | nil => simp [cellsFrom, Memory.get]
  | cons v rest ih =>
    by_cases h : off = a
    · subst h; simp [cellsFrom, Memory.get]
    · rw [cellsFrom, Memory.get, if_neg h, ih]
      by_cases h2 : off ≤ a
      · rw [if_pos (by omega), if_pos h2, show a - off = (a - (off + 1)) + 1 by omega, List.getElem?_cons_succ]
      · rw [if_neg (by omega), if_neg h2]

/-- Everything a write does to the bytes read back. -/
theorem Memory.get_write (m : Memory) (off : Nat) (bytes : List Byte) (a : Nat) :
    (m.write off bytes).get a = if off ≤ a ∧ a < off + bytes.length then bytes[a - off]? else m.get a := by
  rw [Memory.write, Memory.get_append, Memory.get_append, Memory.get_below, Memory.get_above, get_cellsFrom]
  by_cases h1 : a < off
  · have h2 : ¬off + bytes.length ≤ a := by omega
    have h3 : ¬off ≤ a := by omega
    simp [h1, h2, h3]
  · by_cases h2 : a < off + bytes.length
    · have : (bytes[a - off]?).isSome := by simp; omega
      obtain ⟨v, hv⟩ := Option.isSome_iff_exists.mp this
      simp [h1, h2, Nat.not_lt.mp h1, hv]
    · have : bytes[a - off]? = none := by simp; omega
      simp [h1, h2, Nat.not_lt.mp h1, Nat.not_lt.mp h2, this]

theorem Memory.get_write_inside (m : Memory) (off : Nat) (bytes : List Byte) (k : Nat) (h : k < bytes.length) :
    (m.write off bytes).get (off + k) = some bytes[k] := by
  rw [Memory.get_write, if_pos (by omega)]
  simp [h]

theorem Memory.get_write_outside (m : Memory) (off : Nat) (bytes : List Byte) (a : Nat)
    (h : a < off ∨ off + bytes.length ≤ a) : (m.write off bytes).get a = m.get a := by
  rw [Memory.get_write, if_neg (by omega)]

/-- A byte written stays written. -/
theorem Memory.get_write_isSome (m : Memory) (off : Nat) (bytes : List Byte) (a : Nat)
    (h : (m.get a).isSome ∨ off ≤ a ∧ a < off + bytes.length) : ((m.write off bytes).get a).isSome := by
  rw [Memory.get_write]
  split
  · rename_i h1; simp; omega
  · rcases h with h | h
    · exact h
    · contradiction

/-! ## The canonical form -/

theorem Memory.wfFrom_mono (lo lo' size : Nat) (m : Memory) (h : lo' ≤ lo) (hw : Memory.wfFrom lo size m = true) :
    Memory.wfFrom lo' size m = true := by
  cases m with
  | nil => rfl
  | cons c m =>
    obtain ⟨a, v⟩ := c
    simp only [Memory.wfFrom, Bool.and_eq_true, decide_eq_true_eq] at hw ⊢
    exact ⟨⟨by omega, hw.1.2⟩, hw.2⟩

theorem Memory.wfFrom_filter (p : Host.Cell → Bool) (lo size : Nat) (m : Memory)
    (hw : Memory.wfFrom lo size m = true) : Memory.wfFrom lo size (m.filter p) = true := by
  induction m generalizing lo with
  | nil => rfl
  | cons c m ih =>
    obtain ⟨a, v⟩ := c
    simp only [Memory.wfFrom, Bool.and_eq_true, decide_eq_true_eq] at hw
    by_cases hp : p (a, v)
    · simpa [List.filter_cons, hp, Memory.wfFrom, hw.1] using ih (a + 1) hw.2
    · simpa [List.filter_cons, hp] using Memory.wfFrom_mono (a + 1) lo size _ (by omega) (ih (a + 1) hw.2)

/-- Two canonical pieces, the second wholly above the first, make one. -/
theorem Memory.wfFrom_append (lo mid size : Nat) (m n : Memory) (hlo : lo ≤ mid)
    (hm : Memory.wfFrom lo mid m = true) (hsz : mid ≤ size) (hn : Memory.wfFrom mid size n = true) :
    Memory.wfFrom lo size (m ++ n) = true := by
  induction m generalizing lo with
  | nil => exact Memory.wfFrom_mono mid lo size n hlo hn
  | cons c m ih =>
    obtain ⟨a, v⟩ := c
    simp only [Memory.wfFrom, Bool.and_eq_true, decide_eq_true_eq] at hm
    simp only [List.cons_append, Memory.wfFrom, Bool.and_eq_true, decide_eq_true_eq]
    exact ⟨⟨hm.1.1, by omega⟩, ih (a + 1) (by omega) hm.2⟩

theorem wfFrom_cellsFrom (bytes : List Byte) (off : Nat) :
    Memory.wfFrom off (off + bytes.length) (cellsFrom off bytes) = true := by
  induction bytes generalizing off with
  | nil => rfl
  | cons v rest ih =>
    have h := ih (off + 1)
    rw [show off + 1 + rest.length = off + (rest.length + 1) by omega] at h
    simp [cellsFrom, Memory.wfFrom, h]

theorem Memory.wfFrom_below (lo size off : Nat) (m : Memory) (hw : Memory.wfFrom lo size m = true) :
    Memory.wfFrom lo off (m.below off) = true := by
  induction m generalizing lo with
  | nil => rfl
  | cons c m ih =>
    obtain ⟨a, v⟩ := c
    simp only [Memory.wfFrom, Bool.and_eq_true, decide_eq_true_eq] at hw
    by_cases h : a < off
    · simpa [Memory.below, List.filter_cons, h, Memory.wfFrom, hw.1.1] using ih (a + 1) hw.2
    · simpa [Memory.below, List.filter_cons, h] using
        Memory.wfFrom_mono (a + 1) lo off _ (by omega) (ih (a + 1) hw.2)

theorem Memory.wfFrom_above (lo size off : Nat) (m : Memory) (hw : Memory.wfFrom lo size m = true) :
    Memory.wfFrom off size (m.above off) = true := by
  induction m generalizing lo with
  | nil => rfl
  | cons c m ih =>
    obtain ⟨a, v⟩ := c
    simp only [Memory.wfFrom, Bool.and_eq_true, decide_eq_true_eq] at hw
    by_cases h : off ≤ a
    · have := Memory.wfFrom_filter (fun c => decide (off ≤ c.1)) (a + 1) size m hw.2
      simpa [Memory.above, List.filter_cons, h, Memory.wfFrom, hw.1.2] using this
    · simpa [Memory.above, List.filter_cons, h] using ih (a + 1) hw.2

/-- A write inside a RAM keeps its canonical form. -/
theorem Memory.wf_write (size : Nat) (m : Memory) (off : Nat) (bytes : List Byte) (hw : Memory.wf size m = true)
    (h : off + bytes.length ≤ size) : Memory.wf size (m.write off bytes) = true :=
  Memory.wfFrom_append 0 off size _ _ (by omega) (Memory.wfFrom_below 0 size off m hw) (by omega)
    (Memory.wfFrom_append off (off + bytes.length) size _ _ (by omega) (wfFrom_cellsFrom bytes off) h
      (Memory.wfFrom_above 0 size _ m hw))

theorem reset_memory_wf (r : Ram) : Memory.wf (ramSize r) (ramCells r State.reset) = true := by cases r <;> rfl

/-! ## The operations over the state -/

/-- Everything memWrite can answer. -/
theorem memWrite_cases (r : Ram) (off : Nat) (bytes : List Byte) (s : State) :
    (off + bytes.length ≤ ramSize r ∧
      memWrite r off bytes s = .next (setRam r ((ramCells r s).write off bytes) s)) ∨
    (ramSize r < off + bytes.length ∧ memWrite r off bytes s = .fault (.ramRange r off)) := by
  unfold memWrite
  by_cases h : off + bytes.length ≤ ramSize r
  · exact .inl ⟨h, if_pos h⟩
  · exact .inr ⟨by omega, if_neg h⟩

theorem memWrite_next (r : Ram) (off : Nat) (bytes : List Byte) (s : State) (h : off + bytes.length ≤ ramSize r) :
    memWrite r off bytes s = .next (setRam r ((ramCells r s).write off bytes) s) := if_pos h

theorem memWrite_eq_next {r : Ram} {off : Nat} {bytes : List Byte} {s t : State} (h : memWrite r off bytes s = .next t) :
    off + bytes.length ≤ ramSize r ∧ t = setRam r ((ramCells r s).write off bytes) s := by
  rcases memWrite_cases r off bytes s with ⟨hl, he⟩ | ⟨_, he⟩
  · rw [he] at h; exact ⟨hl, (Host.Outcome.next.inj h).symm⟩
  · rw [he] at h; cases h

/-- A byte written reads back. -/
theorem readByte_write_inside (r : Ram) (off : Nat) (bytes : List Byte) (s : State) (k : Nat) (h : k < bytes.length) :
    readByte r (setRam r ((ramCells r s).write off bytes) s) (off + k) = bytes[k] := by
  simp [readByte, Memory.get_write_inside _ _ _ _ h]

/-- Every other byte of that RAM reads as before. -/
theorem readByte_write_outside (r : Ram) (off : Nat) (bytes : List Byte) (s : State) (a : Nat)
    (h : a < off ∨ off + bytes.length ≤ a) :
    readByte r (setRam r ((ramCells r s).write off bytes) s) a = readByte r s a := by
  simp [readByte, Memory.get_write_outside _ _ _ _ h]

/-- Every byte of another RAM reads as before. -/
theorem readByte_setRam_other (r q : Ram) (m : Memory) (s : State) (a : Nat) (h : r ≠ q) :
    readByte q (setRam r m s) a = readByte q s a := by
  simp [readByte, ramCells_setRam_other s r q m h]

/-- A read depends on the RAM's written bytes and the count of resets only. -/
theorem readByte_congr (r : Ram) (s t : State) (a : Nat) (hc : ramCells r s = ramCells r t) (he : s.epoch = t.epoch) :
    readByte r s a = readByte r t a := by
  simp [readByte, hc, he]

theorem memRead_length (r : Ram) (s : State) (off n : Nat) : (memRead r s off n).length = n := by simp [memRead]

end Sys2Proof.Machine
end

