-- ==== Sys2Proof/Laws/Ops.lean ====
section
/-! SUPPORT. What each shared operation can answer, once, and the small facts about headers and operand words. -/

namespace Sys2Proof.Machine

/-! ## Sequencing and responses -/

theorem andThen_next (s : State) (f : State → Out) : andThen (.next s) f = f s := rfl

theorem andThen_eq_next {o : Out} {f : State → Out} {t : State} (h : andThen o f = .next t) :
    ∃ s, o = .next s ∧ f s = .next t := by
  cases o with
  | next s => exact ⟨s, rfl, h⟩
  | fault r => cases h
  | refused r => cases h

theorem answer_eq_next {v : Word} {s t : State} (h : answer v s = .next t) :
    t = { s with response := some { resp := .okay, rdata := v } } := (Host.Outcome.next.inj h).symm

/-- Everything a bus error does: the response, the cause, the address and EVENTS.BUSERR. -/
theorem raiseBusError_eq (c : BusError) (a : Word) (s : State) :
    raiseBusError c a s = .next { s with
      response := some { resp := .err, rdata := 0 }
      busErrCause := causeCode c
      busErrAddr := a
      events := s.events ||| eventBusErr } := rfl

theorem raiseBusError_eq_next {c : BusError} {a : Word} {s t : State} (h : raiseBusError c a s = .next t) :
    t = { s with
      response := some { resp := .err, rdata := 0 }
      busErrCause := causeCode c
      busErrAddr := a
      events := s.events ||| eventBusErr } := (Host.Outcome.next.inj h).symm

theorem waiting_eq_next {s t : State} (h : waiting s = .next t) : t = s := (Host.Outcome.next.inj h).symm

/-! ## The stream -/

theorem streamRead_eq_some {n : Nat} {s t : State} {bytes : List Byte} (h : streamRead n s = some (bytes, t)) :
    n ≤ s.stream.length ∧ bytes = s.stream.take n ∧ t = { s with stream := s.stream.drop n } := by
  unfold streamRead at h
  split at h
  · rename_i hl
    obtain ⟨rfl, rfl⟩ := Prod.mk.inj (Option.some.inj h)
    exact ⟨hl, rfl, rfl⟩
  · cases h

theorem streamRead_enough (n : Nat) (s : State) (h : n ≤ s.stream.length) :
    streamRead n s = some (s.stream.take n, { s with stream := s.stream.drop n }) := if_pos h

theorem streamRead_short (n : Nat) (s : State) (h : s.stream.length < n) : streamRead n s = none :=
  if_neg (by omega)

/-! ## Headers -/

theorem headerOf_headerBytes (h : BitVec 32) : headerOf (headerBytes h) = h := by
  simp only [headerOf, headerBytes]
  ext i hi
  simp only [BitVec.getElem_append, BitVec.getElem_extractLsb']
  split
  · rw [Nat.zero_add, BitVec.getLsbD_eq_getElem hi]
  · split
    · rw [BitVec.getLsbD_eq_getElem (by omega)]; congr 1; omega
    · split
      · rw [BitVec.getLsbD_eq_getElem (by omega)]; congr 1; omega
      · rw [BitVec.getLsbD_eq_getElem (by omega)]; congr 1; omega

theorem headerBytes_headerOf (bytes : List Byte) (h : bytes.length = 4) : headerBytes (headerOf bytes) = bytes := by
  match bytes, h with
  | [b0, b1, b2, b3], _ =>
    simp only [headerOf, headerBytes, List.cons.injEq, and_true]
    refine ⟨?_, ?_, ?_, ?_⟩ <;> apply BitVec.eq_of_toNat_eq <;>
      simp only [BitVec.extractLsb'_toNat, BitVec.toNat_append, Nat.shiftLeft_eq, Nat.shiftRight_eq_div_pow,
        ← Nat.two_pow_add_eq_or_of_lt, Nat.mul_comm _ (2 ^ 8), BitVec.isLt] <;>
      omega
theorem headerBytes_length (h : BitVec 32) : (headerBytes h).length = 4 := rfl

/-- The classes against the predicates of 42_synchronizer.md R266 to R269. -/
theorem headerClass_telemetry_iff (h : BitVec 32) (s : State) :
    headerClass (headerContext s) h = .telemetry ↔ isTele h s = true := by
  unfold headerClass headerContext isTele
  cases isDiscard h <;> cases inWindow s <;> simp <;> split <;> (try split) <;> simp

theorem headerClass_image_iff (h : BitVec 32) (s : State) :
    headerClass (headerContext s) h = .image ↔ isImage h s = true := by
  unfold headerClass headerContext isImage
  cases isDiscard h <;> cases inWindow s <;> simp <;> split <;> simp_all

/-! ## The predicates as propositions -/

theorem inWindow_iff (s : State) :
    inWindow s = true ↔ teleEn s = true ∧ s.tele.toNat < 3 ∧ s.line.toNat = tpos s := by
  unfold inWindow
  rw [Bool.and_eq_true, Bool.and_eq_true, decide_eq_true_iff, decide_eq_true_iff, and_assoc]
  exact Iff.rfl

theorem isTele_iff (h : BitVec 32) (s : State) :
    isTele h s = true ↔ isDiscard h = false ∧ inWindow s = true := by
  unfold isTele
  rw [Bool.and_eq_true, Bool.not_eq_true']

theorem isImage_iff (h : BitVec 32) (s : State) :
    isImage h s = true ↔
      isDiscard h = false ∧ inWindow s = false ∧ s.line.toNat < 60 ∧ headerLine h = s.line.setWidth 8 := by
  unfold isImage lineMatches
  rw [Bool.and_eq_true, Bool.and_eq_true, Bool.and_eq_true, decide_eq_true_iff, decide_eq_true_iff, Bool.not_eq_true',
    Bool.not_eq_true', and_assoc, and_assoc]
  exact Iff.rfl

theorem matchesHeader_iff (h : BitVec 32) (s : State) :
    matchesHeader h s = true ↔ isTele h s = true ∨ isImage h s = true := by
  unfold matchesHeader
  rw [Bool.or_eq_true]

theorem isNewframe_iff (h : BitVec 32) (s : State) :
    isNewframe h s = true ↔ isDiscard h = false ∧ matchesHeader h s = false ∧ headerLine h = 0 := by
  unfold isNewframe
  rw [Bool.and_eq_true, Bool.and_eq_true, decide_eq_true_iff, Bool.not_eq_true', Bool.not_eq_true', and_assoc]

theorem targetsMet_iff (s : State) :
    targetsMet s = true ↔ s.outRow.toNat = height s.mode ∧ (teleEn s = false ∨ s.tele = 3) := by
  unfold targetsMet
  rw [Bool.and_eq_true, Bool.or_eq_true, decide_eq_true_iff, decide_eq_true_iff, Bool.not_eq_true']

/-! ## The engine's operations by cases -/

theorem acceptMatch_cases (h : BitVec 32) (s : State) :
    (isTele h s = true ∧ acceptMatch h s = acceptTelemetry (toStreaming s)) ∨
    (isTele h s = false ∧ acceptMatch h s = acceptImage (toStreaming s)) := by
  unfold acceptMatch
  cases isTele h s <;> simp

theorem noMatch_cases (s : State) :
    (s.st = .resyncing ∧ noMatch s = s) ∨ (s.st ≠ .resyncing ∧ noMatch s = outOfSync s) := by
  unfold noMatch
  cases h : s.st <;> simp

theorem newFrame_cases (h : BitVec 32) (s : State) :
    ((s.skip + 1).toNat = 5 ∧ newFrame h s = terminate .frameSkipLimit { s with skip := s.skip + 1 }) ∨
    ((s.skip + 1).toNat ≠ 5 ∧ newFrame h s = restartFrame h { s with skip := s.skip + 1 }) := by
  unfold newFrame
  by_cases hk : (s.skip + 1).toNat = 5
  · exact .inl ⟨hk, if_pos hk⟩
  · exact .inr ⟨hk, if_neg hk⟩

theorem checkComplete_cases (s : State) :
    (targetsMet s = true ∧ checkComplete s = terminate .done s) ∨
    (targetsMet s = false ∧ checkComplete s = s) := by
  unfold checkComplete
  cases targetsMet s <;> simp

theorem zeroBytes_length (n : Nat) : (zeroBytes n).length = n := by simp [zeroBytes]

/-- Everything TelemetryBufferMatch can do (42_synchronizer.md R263): it never stops. -/
theorem telemetryBufferMatch_cases (s : State) :
    (teleEn s = true ∧ s.tbufAlloc = false ∧ telemetryBufferMatch s = .next { s with
      tbufAlloc := true
      tel := (s.tel.write 0 [0x0F]).write 1 (zeroBytes 163) }) ∨
    (teleEn s = false ∧ s.tbufAlloc = true ∧ telemetryBufferMatch s = .next { s with tbufAlloc := false }) ∨
    (teleEn s = s.tbufAlloc ∧ telemetryBufferMatch s = .next s) := by
  unfold telemetryBufferMatch
  cases ht : teleEn s <;> cases ha : s.tbufAlloc
  · simp
  · simp
  · refine .inl ⟨rfl, rfl, ?_⟩
    rw [if_pos (by simp), memWrite_next .tel 0 _ _ (by decide), andThen_next,
      memWrite_next .tel 1 _ _ (by rw [zeroBytes_length]; decide)]
    rfl
  · simp

/-- Everything StoreTelemetry does (43_reassembly.md R318): it never stops on a whole payload. -/
theorem storeTelemetry_next (pay : List Byte) (s : State) (h : pay.length = 160) :
    storeTelemetry pay s = .next { s with
      tel := (s.tel.write 0 (headerBytes s.hdr)).write 4 pay
      tele := s.tele + 1 } := by
  simp [storeTelemetry, andThen, memWrite, ramSize, ramCells, setRam, advanceTele, headerBytes_length, h]

theorem lpb_pos (m : StorageMode) : 0 < lpb m := by cases m <;> decide

theorem lpb_le (m : StorageMode) : lpb m ≤ 4 := by cases m <;> decide

theorem slotOf_lt (s : State) : slotOf s < lpb s.mode := Nat.mod_lt _ (lpb_pos s.mode)

/-- Everything storing a packet in its scratch slot does (43_reassembly.md R312): it never stops on a whole
payload. -/
theorem storeSlot_next (pay : List Byte) (s : State) (h : pay.length = 160) :
    storeSlot pay s = .next { s with
      scr := (s.scr.write (176 * slotOf s) (headerBytes s.hdr)).write (176 * slotOf s + 4) pay } := by
  have h1 := slotOf_lt s
  have h2 := lpb_le s.mode
  have h3 : 176 * slotOf s + 4 ≤ 704 := by omega
  have h4 : 176 * slotOf s + 4 + 160 ≤ 704 := by omega
  simp [storeSlot, andThen, memWrite, ramSize, ramCells, setRam, headerBytes_length, h, slotOffset, h3, h4]

theorem pixelBytes_length (b v : Nat) (h : b = 1 ∨ b = 2) : (pixelBytes b v).length = b := by
  rcases h with rfl | rfl <;> rfl

theorem bpp_cases (m : StorageMode) : bpp m = 1 ∨ bpp m = 2 := by cases m <;> decide

theorem bandBytes_length (s : State) : (bandBytes s).length = width s.mode * bpp s.mode := by
  simp [bandBytes, List.length_flatMap, pixelBytes_length _ _ (bpp_cases s.mode)]

/-- Everything DownsampleRow does (44_downsampler.md R340, R341) for a row of the image. -/
theorem downsampleRow_next (r : Nat) (s : State) (h : r < height s.mode) :
    downsampleRow r s = .next { s with img := s.img.write (rowOffset s.mode r) (bandBytes s) } := by
  have hl : rowOffset s.mode r + (bandBytes s).length ≤ 9600 := by
    rw [bandBytes_length]
    revert h
    cases s.mode <;> simp [rowOffset, pitch, width, bpp, height] <;> omega
  simp [downsampleRow, memWrite, ramSize, ramCells, setRam, hl]

/-- Everything storing a line on the direct path does (43_reassembly.md R311) below line 60. -/
theorem storeDirect_next (pay : List Byte) (s : State) (hp : pay.length = 160) (hm : s.mode = .m80x60x16)
    (hl : s.line.toNat < 60) :
    storeDirect pay s = .next { s with
      img := s.img.write (s.line.toNat * 160) pay
      line := s.line + 1
      outRow := s.outRow + 1 } := by
  have h1 : s.line.toNat * 160 + 160 ≤ 9600 := by omega
  simp [storeDirect, andThen, memWrite, ramSize, ramCells, setRam, advanceRow, advanceLine, rowOffset, pitch, width,
    bpp, hm, hp, h1]

end Sys2Proof.Machine
end

