-- ==== Sys2Proof/Laws/PerInstr.lean ====
section
/-! SUPPORT. The per-instruction family TableRow: a well-formed instruction's encoding has the bits that its row of
spec/opcode_table.json fixes. -/

namespace Sys2Proof.Laws.TableRow

/-- The bits a row of spec/opcode_table.json fixes: highest bit, lowest bit, value. -/
def fixedBits (i : Instr) : List (Nat × Nat × Nat) :=
  match i with
  | .hdrDiscard _ => [(31, 28, 15)]
  | .hdrTelemetry _ => []
  | .hdrImage _ => []
  | .hdrNewframe _ => [(23, 16, 0)]
  | .hdrOutOfSync _ => []
  | .stepPreflight => [(5, 3, 1)]
  | .stepSync => [(5, 2, 4)]
  | .stepHeaderSyncing => [(5, 2, 5)]
  | .stepHeaderStreaming => [(1, 1, 0), (5, 3, 3)]
  | .stepPayload => [(1, 1, 1), (5, 3, 3)]
  | .stepProbe => [(0, 0, 0), (5, 3, 4)]
  | .stepExhaust => [(0, 0, 1), (5, 3, 4)]
  | .rdCtrl => [(16, 0, 0)]
  | .rdMode => [(16, 0, 2)]
  | .rdPreflight => [(16, 0, 4)]
  | .rdStatus => [(16, 0, 6)]
  | .rdEvents => [(16, 0, 8)]
  | .rdIrqEn => [(16, 0, 10)]
  | .rdSkipCount => [(16, 0, 12)]
  | .rdProbeCount => [(16, 0, 14)]
  | .rdLine => [(16, 0, 16)]
  | .rdOutRow => [(16, 0, 18)]
  | .rdTeleCount => [(16, 0, 20)]
  | .rdLastHdrId => [(16, 0, 22)]
  | .rdLastHdrCrc => [(16, 0, 24)]
  | .rdBuserrCause => [(16, 0, 26)]
  | .rdBuserrAddr => [(16, 0, 28)]
  | .rdGeomW => [(16, 0, 30)]
  | .rdGeomH => [(16, 0, 32)]
  | .rdGeomBpp => [(16, 0, 34)]
  | .rdGeomPitch => [(16, 0, 36)]
  | .rdGeomTotal => [(16, 0, 38)]
  | .rdGeomLpb => [(16, 0, 40)]
  | .wrCtrl _ => [(16, 0, 65536)]
  | .wrMode _ => [(16, 0, 65538)]
  | .wrPreflight _ => [(16, 0, 65540)]
  | .wrEvents _ => [(16, 0, 65544)]
  | .wrIrqEn _ => [(16, 0, 65546)]
  | .wrStatusRo _ => [(16, 0, 65542)]
  | .wrSkipCountRo _ => [(16, 0, 65548)]
  | .wrProbeCountRo _ => [(16, 0, 65550)]
  | .wrLineRo _ => [(16, 0, 65552)]
  | .wrOutRowRo _ => [(16, 0, 65554)]
  | .wrTeleCountRo _ => [(16, 0, 65556)]
  | .wrLastHdrIdRo _ => [(16, 0, 65558)]
  | .wrLastHdrCrcRo _ => [(16, 0, 65560)]
  | .wrBuserrCauseRo _ => [(16, 0, 65562)]
  | .wrBuserrAddrRo _ => [(16, 0, 65564)]
  | .wrGeomWRo _ => [(16, 0, 65566)]
  | .wrGeomHRo _ => [(16, 0, 65568)]
  | .wrGeomBppRo _ => [(16, 0, 65570)]
  | .wrGeomPitchRo _ => [(16, 0, 65572)]
  | .wrGeomTotalRo _ => [(16, 0, 65574)]
  | .wrGeomLpbRo _ => [(16, 0, 65576)]
  | .rdImg _ => [(0, 0, 0), (16, 14, 1)]
  | .wrImgRo _ _ => [(0, 0, 0), (16, 14, 5)]
  | .rdTraw _ => [(0, 0, 0), (16, 8, 2)]
  | .wrTrawRo _ _ => [(0, 0, 0), (16, 8, 258)]
  | .rdTRevMajor => [(16, 0, 256)]
  | .rdTRevMinor => [(16, 0, 258)]
  | .rdTUptimeLo => [(16, 0, 260)]
  | .rdTUptimeHi => [(16, 0, 262)]
  | .rdTFlags => [(16, 0, 264)]
  | .rdTSerial0 => [(16, 0, 266)]
  | .rdTSerial1 => [(16, 0, 268)]
  | .rdTSerial2 => [(16, 0, 270)]
  | .rdTSerial3 => [(16, 0, 272)]
  | .rdTSerial4 => [(16, 0, 274)]
  | .rdTSerial5 => [(16, 0, 276)]
  | .rdTSerial6 => [(16, 0, 278)]
  | .rdTSerial7 => [(16, 0, 280)]
  | .rdTSwrev0 => [(16, 0, 282)]
  | .rdTSwrev1 => [(16, 0, 284)]
  | .rdTSwrev2 => [(16, 0, 286)]
  | .rdTSwrev3 => [(16, 0, 288)]
  | .rdTFramecntLo => [(16, 0, 290)]
  | .rdTFramecntHi => [(16, 0, 292)]
  | .rdTFrameMean => [(16, 0, 294)]
  | .rdTFpaTemp => [(16, 0, 296)]
  | .rdTFpaTempFfc => [(16, 0, 298)]
  | .rdTHousTemp => [(16, 0, 300)]
  | .rdTHousTempFfc => [(16, 0, 302)]
  | .rdTRoiTop => [(16, 0, 304)]
  | .rdTRoiLeft => [(16, 0, 306)]
  | .rdTRoiBottom => [(16, 0, 308)]
  | .rdTRoiRight => [(16, 0, 310)]
  | .rdTClipHi => [(16, 0, 312)]
  | .rdTClipLo => [(16, 0, 314)]
  | .rdTLog2Ffc => [(16, 0, 316)]
  | .wrTfieldRo _ _ => [(0, 0, 0), (16, 8, 257)]
  | .accUnmapped _ => [(0, 0, 0)]
  | .accMisaligned _ => [(0, 0, 1)]

/-- An encoding as one number: T of the first three bytes of a host transaction, E, or H. -/
def wordOfBytes (bytes : List Byte) : Nat :=
  match bytes with
  | [t0, t1, t2, _, _] => t0.toNat + 256 * t1.toNat + 65536 * t2.toNat
  | [e] => e.toNat
  | _ => (Machine.headerOf bytes).toNat

/-- The number spec/opcode_table.json matches an instruction by. -/
def tableWord (i : Instr) : Nat := wordOfBytes (encode i)

/-- The encoding has the row's fixed bits. -/
def Statement (i : Instr) : Prop :=
  ∀ c, wellFormed c i = true →
    ∀ f ∈ fixedBits i, tableWord i / 2 ^ f.2.1 % 2 ^ (f.1 - f.2.1 + 1) = f.2.2

theorem hostBytes_word (t : BitVec 17) (d : Word) : wordOfBytes (hostBytes t d) = t.toNat := by
  have := t.isLt
  simp [wordOfBytes, hostBytes, BitVec.extractLsb'_toNat, Nat.shiftRight_eq_div_pow]
  omega

theorem header_word (h : BitVec 32) : wordOfBytes (headerBytes h) = h.toNat := by
  have := Machine.headerOf_headerBytes h
  simp only [headerBytes] at this
  simp [wordOfBytes, headerBytes, this]

theorem readT_toNat (a : Word) : (readT a).toNat = a.toNat := by
  have := a.isLt
  simp [readT]
  omega

theorem writeT_toNat (a : Word) : (writeT a).toNat = 65536 + a.toNat := by
  have h := a.isLt
  simp only [writeT, BitVec.toNat_or, BitVec.toNat_setWidth]
  rw [Nat.mod_eq_of_lt (show a.toNat < 2 ^ 17 by omega)]
  exact (Nat.two_pow_add_eq_or_of_lt (i := 16) h 1).symm

theorem unmapped_even (a : Nat) (h : unmappedAddr a = true) : a % 2 = 0 := by
  simp only [unmappedAddr, evenWithin, Bool.or_eq_true, Bool.and_eq_true, decide_eq_true_eq] at h
  omega

theorem hdrDiscard (h : BitVec 32) : Statement (.hdrDiscard h) := by
  intro c hw; simp [wellFormed, markedDiscard, fixedBits, tableWord, encode, header_word] at hw ⊢; omega

theorem hdrTelemetry (h : BitVec 32) : Statement (.hdrTelemetry h) := fun _ _ => by simp [fixedBits]

theorem hdrImage (h : BitVec 32) : Statement (.hdrImage h) := fun _ _ => by simp [fixedBits]

theorem hdrNewframe (h : BitVec 32) : Statement (.hdrNewframe h) := by
  intro c hw
  have h0 : lineNumber h = 0 := of_decide_eq_true (Bool.and_eq_true _ _ ▸ hw).2
  rw [lineNumber] at h0
  simp only [fixedBits, tableWord, encode, header_word, List.mem_singleton, forall_eq]
  omega

theorem hdrOutOfSync (h : BitVec 32) : Statement (.hdrOutOfSync h) := fun _ _ => by simp [fixedBits]

theorem stepPreflight : Statement (.stepPreflight) := by
  intro c _; decide

theorem stepSync : Statement (.stepSync) := by
  intro c _; decide

theorem stepHeaderSyncing : Statement (.stepHeaderSyncing) := by
  intro c _; decide

theorem stepHeaderStreaming : Statement (.stepHeaderStreaming) := by
  intro c _; decide

theorem stepPayload : Statement (.stepPayload) := by
  intro c _; decide

theorem stepProbe : Statement (.stepProbe) := by
  intro c _; decide

theorem stepExhaust : Statement (.stepExhaust) := by
  intro c _; decide

theorem rdCtrl : Statement (.rdCtrl) := by
  intro c _; decide

theorem rdMode : Statement (.rdMode) := by
  intro c _; decide

theorem rdPreflight : Statement (.rdPreflight) := by
  intro c _; decide

theorem rdStatus : Statement (.rdStatus) := by
  intro c _; decide

theorem rdEvents : Statement (.rdEvents) := by
  intro c _; decide

theorem rdIrqEn : Statement (.rdIrqEn) := by
  intro c _; decide

theorem rdSkipCount : Statement (.rdSkipCount) := by
  intro c _; decide

theorem rdProbeCount : Statement (.rdProbeCount) := by
  intro c _; decide

theorem rdLine : Statement (.rdLine) := by
  intro c _; decide

theorem rdOutRow : Statement (.rdOutRow) := by
  intro c _; decide

theorem rdTeleCount : Statement (.rdTeleCount) := by
  intro c _; decide

theorem rdLastHdrId : Statement (.rdLastHdrId) := by
  intro c _; decide

theorem rdLastHdrCrc : Statement (.rdLastHdrCrc) := by
  intro c _; decide

theorem rdBuserrCause : Statement (.rdBuserrCause) := by
  intro c _; decide

theorem rdBuserrAddr : Statement (.rdBuserrAddr) := by
  intro c _; decide

theorem rdGeomW : Statement (.rdGeomW) := by
  intro c _; decide

theorem rdGeomH : Statement (.rdGeomH) := by
  intro c _; decide

theorem rdGeomBpp : Statement (.rdGeomBpp) := by
  intro c _; decide

theorem rdGeomPitch : Statement (.rdGeomPitch) := by
  intro c _; decide

theorem rdGeomTotal : Statement (.rdGeomTotal) := by
  intro c _; decide

theorem rdGeomLpb : Statement (.rdGeomLpb) := by
  intro c _; decide

theorem wrCtrl (d : Word) : Statement (.wrCtrl d) := by
  intro c _; simp [fixedBits, tableWord, encode, hostBytes_word]

theorem wrMode (d : Word) : Statement (.wrMode d) := by
  intro c _; simp [fixedBits, tableWord, encode, hostBytes_word]

theorem wrPreflight (d : Word) : Statement (.wrPreflight d) := by
  intro c _; simp [fixedBits, tableWord, encode, hostBytes_word]

theorem wrEvents (d : Word) : Statement (.wrEvents d) := by
  intro c _; simp [fixedBits, tableWord, encode, hostBytes_word]

theorem wrIrqEn (d : Word) : Statement (.wrIrqEn d) := by
  intro c _; simp [fixedBits, tableWord, encode, hostBytes_word]

theorem wrStatusRo (d : Word) : Statement (.wrStatusRo d) := by
  intro c _; simp [fixedBits, tableWord, encode, hostBytes_word]

theorem wrSkipCountRo (d : Word) : Statement (.wrSkipCountRo d) := by
  intro c _; simp [fixedBits, tableWord, encode, hostBytes_word]

theorem wrProbeCountRo (d : Word) : Statement (.wrProbeCountRo d) := by
  intro c _; simp [fixedBits, tableWord, encode, hostBytes_word]

theorem wrLineRo (d : Word) : Statement (.wrLineRo d) := by
  intro c _; simp [fixedBits, tableWord, encode, hostBytes_word]

theorem wrOutRowRo (d : Word) : Statement (.wrOutRowRo d) := by
  intro c _; simp [fixedBits, tableWord, encode, hostBytes_word]

theorem wrTeleCountRo (d : Word) : Statement (.wrTeleCountRo d) := by
  intro c _; simp [fixedBits, tableWord, encode, hostBytes_word]

theorem wrLastHdrIdRo (d : Word) : Statement (.wrLastHdrIdRo d) := by
  intro c _; simp [fixedBits, tableWord, encode, hostBytes_word]

theorem wrLastHdrCrcRo (d : Word) : Statement (.wrLastHdrCrcRo d) := by
  intro c _; simp [fixedBits, tableWord, encode, hostBytes_word]

theorem wrBuserrCauseRo (d : Word) : Statement (.wrBuserrCauseRo d) := by
  intro c _; simp [fixedBits, tableWord, encode, hostBytes_word]

theorem wrBuserrAddrRo (d : Word) : Statement (.wrBuserrAddrRo d) := by
  intro c _; simp [fixedBits, tableWord, encode, hostBytes_word]

theorem wrGeomWRo (d : Word) : Statement (.wrGeomWRo d) := by
  intro c _; simp [fixedBits, tableWord, encode, hostBytes_word]

theorem wrGeomHRo (d : Word) : Statement (.wrGeomHRo d) := by
  intro c _; simp [fixedBits, tableWord, encode, hostBytes_word]

theorem wrGeomBppRo (d : Word) : Statement (.wrGeomBppRo d) := by
  intro c _; simp [fixedBits, tableWord, encode, hostBytes_word]

theorem wrGeomPitchRo (d : Word) : Statement (.wrGeomPitchRo d) := by
  intro c _; simp [fixedBits, tableWord, encode, hostBytes_word]

theorem wrGeomTotalRo (d : Word) : Statement (.wrGeomTotalRo d) := by
  intro c _; simp [fixedBits, tableWord, encode, hostBytes_word]

theorem wrGeomLpbRo (d : Word) : Statement (.wrGeomLpbRo d) := by
  intro c _; simp [fixedBits, tableWord, encode, hostBytes_word]

theorem rdImg (a : Word) : Statement (.rdImg a) := by
  intro c hw; simp [wellFormed, evenWithin, fixedBits, tableWord, encode, hostBytes_word, readT_toNat] at hw ⊢
  omega

theorem wrImgRo (a d : Word) : Statement (.wrImgRo a d) := by
  intro c hw; simp [wellFormed, evenWithin, fixedBits, tableWord, encode, hostBytes_word, writeT_toNat] at hw ⊢
  omega

theorem rdTraw (a : Word) : Statement (.rdTraw a) := by
  intro c hw; simp [wellFormed, evenWithin, fixedBits, tableWord, encode, hostBytes_word, readT_toNat] at hw ⊢
  omega

theorem wrTrawRo (a d : Word) : Statement (.wrTrawRo a d) := by
  intro c hw; simp [wellFormed, evenWithin, fixedBits, tableWord, encode, hostBytes_word, writeT_toNat] at hw ⊢
  omega

theorem rdTRevMajor : Statement (.rdTRevMajor) := by
  intro c _; decide

theorem rdTRevMinor : Statement (.rdTRevMinor) := by
  intro c _; decide

theorem rdTUptimeLo : Statement (.rdTUptimeLo) := by
  intro c _; decide

theorem rdTUptimeHi : Statement (.rdTUptimeHi) := by
  intro c _; decide

theorem rdTFlags : Statement (.rdTFlags) := by
  intro c _; decide

theorem rdTSerial0 : Statement (.rdTSerial0) := by
  intro c _; decide

theorem rdTSerial1 : Statement (.rdTSerial1) := by
  intro c _; decide

theorem rdTSerial2 : Statement (.rdTSerial2) := by
  intro c _; decide

theorem rdTSerial3 : Statement (.rdTSerial3) := by
  intro c _; decide

theorem rdTSerial4 : Statement (.rdTSerial4) := by
  intro c _; decide

theorem rdTSerial5 : Statement (.rdTSerial5) := by
  intro c _; decide

theorem rdTSerial6 : Statement (.rdTSerial6) := by
  intro c _; decide

theorem rdTSerial7 : Statement (.rdTSerial7) := by
  intro c _; decide

theorem rdTSwrev0 : Statement (.rdTSwrev0) := by
  intro c _; decide

theorem rdTSwrev1 : Statement (.rdTSwrev1) := by
  intro c _; decide

theorem rdTSwrev2 : Statement (.rdTSwrev2) := by
  intro c _; decide

theorem rdTSwrev3 : Statement (.rdTSwrev3) := by
  intro c _; decide

theorem rdTFramecntLo : Statement (.rdTFramecntLo) := by
  intro c _; decide

theorem rdTFramecntHi : Statement (.rdTFramecntHi) := by
  intro c _; decide

theorem rdTFrameMean : Statement (.rdTFrameMean) := by
  intro c _; decide

theorem rdTFpaTemp : Statement (.rdTFpaTemp) := by
  intro c _; decide

theorem rdTFpaTempFfc : Statement (.rdTFpaTempFfc) := by
  intro c _; decide

theorem rdTHousTemp : Statement (.rdTHousTemp) := by
  intro c _; decide

theorem rdTHousTempFfc : Statement (.rdTHousTempFfc) := by
  intro c _; decide

theorem rdTRoiTop : Statement (.rdTRoiTop) := by
  intro c _; decide

theorem rdTRoiLeft : Statement (.rdTRoiLeft) := by
  intro c _; decide

theorem rdTRoiBottom : Statement (.rdTRoiBottom) := by
  intro c _; decide

theorem rdTRoiRight : Statement (.rdTRoiRight) := by
  intro c _; decide

theorem rdTClipHi : Statement (.rdTClipHi) := by
  intro c _; decide

theorem rdTClipLo : Statement (.rdTClipLo) := by
  intro c _; decide

theorem rdTLog2Ffc : Statement (.rdTLog2Ffc) := by
  intro c _; decide

theorem wrTfieldRo (a d : Word) : Statement (.wrTfieldRo a d) := by
  intro c hw; simp [wellFormed, evenWithin, fixedBits, tableWord, encode, hostBytes_word, writeT_toNat] at hw ⊢
  omega

theorem accUnmapped (x : Access) : Statement (.accUnmapped x) := by
  intro c hw
  have h : x.addr.toNat % 2 = 0 := unmapped_even _ hw
  cases x <;> rw [Access.addr] at h <;>
    simp only [fixedBits, tableWord, encode, accessBytes, hostBytes_word, readT_toNat, writeT_toNat, List.mem_singleton,
      forall_eq] <;>
    omega

theorem accMisaligned (x : Access) : Statement (.accMisaligned x) := by
  intro c hw
  have h : x.addr.toNat % 2 = 1 := of_decide_eq_true hw
  cases x <;> rw [Access.addr] at h <;>
    simp only [fixedBits, tableWord, encode, accessBytes, hostBytes_word, readT_toNat, writeT_toNat, List.mem_singleton,
      forall_eq] <;>
    omega

end Sys2Proof.Laws.TableRow
end

