-- ==== Sys2Proof/Laws/Steps.lean ====
section
/-! SUPPORT. Everything an instruction can do when it answers a next state, once: the relation Effect, and the lemma
that every next state is one of its cases. Later proofs take Effect apart and unfold no meaning. -/

namespace Sys2Proof.Machine

/-- The instruction is a host transaction's. -/
abbrev HostRow (i : Instr) : Prop := portOf resetContext i = .host

theorem portOf_host_iff (c : HeaderContext) (i : Instr) : portOf c i = .host ↔ HostRow i := by
  cases i <;> simp [portOf, HostRow]

/-- The HEADER row of a state that is SYNCING or STREAMING. -/
abbrev headerStepOf (s : State) : Instr := if s.st = .syncing then .stepHeaderSyncing else .stepHeaderStreaming

/-- A HEADER step is due but for the transport's answer (42_synchronizer.md R260). -/
abbrev HeaderDue (s : State) : Prop :=
  s.st = .syncing ∧ s.syncDone = true ∨ s.st = .streaming ∧ s.pend = .none

/-- The state with the counters of a payload stored on the direct path. -/
def directStored (pay rest : List Byte) (s : State) : State :=
  { s with
    stream := rest
    img := s.img.write (s.line.toNat * 160) pay
    line := s.line + 1
    outRow := s.outRow + 1 }

/-- The state with a packet in its scratch slot, no counter advanced. -/
def slotStored (pay rest : List Byte) (s : State) : State :=
  { s with
    stream := rest
    scr := (s.scr.write (176 * slotOf s) (headerBytes s.hdr)).write (176 * slotOf s + 4) pay }

/-- A header read where a HEADER step is due. -/
def afterHeaderStep (h : BitVec 32) (rest : List Byte) (s : State) : State :=
  if matchesHeader h s then afterMatch h (afterHeaderRead h rest s)
  else { afterHeaderRead h rest s with st := .resyncing, probe := 0 }

/-- A header read where a PROBE step is due. -/
def afterProbeStep (h : BitVec 32) (rest : List Byte) (s : State) : State :=
  if matchesHeader h s then afterMatch h (afterProbeRead h rest s)
  else if isNewframe h s then afterNewFrame h (afterProbeRead h rest s)
  else afterProbeRead h rest s

/-- Everything an instruction can do from a state. -/
inductive Effect (s : State) : Instr → State → Prop
  | waits {i : Instr} (h : ¬HostRow i) : Effect s i s
  | answers {i : Instr} (v : Word) (h : HostRow i) : Effect s i (afterAnswer v s)
  | raises {i : Instr} (c : BusError) (a : Word) (h : HostRow i) : Effect s i (afterBusError (causeCode c) a s)
  | start (d : Word) (h : d.getLsbD 0 = true) (hs : s.st = .idle) :
    Effect s (.wrCtrl d) (afterAnswer 0 (startCapture s))
  | startIgnored (d : Word) (h : d.getLsbD 0 = true) (hs : s.st ≠ .idle) :
    Effect s (.wrCtrl d) (afterAnswer 0 { s with events := s.events ||| 0b010 })
  | mode (d : Word) (m : StorageMode) (hs : s.st = .idle) (hm : modeOf (d.extractLsb' 0 3) = some m) :
    Effect s (.wrMode d) (afterAnswer 0 { s with mode := m, frameValid := s.frameValid && decide (m = s.mode) })
  | preflight (d : Word) (hs : s.st = .idle) :
    Effect s (.wrPreflight d) (afterAnswer 0 { s with preflight := d.extractLsb' 0 4 })
  | acknowledged (d : Word) :
    Effect s (.wrEvents d) (afterAnswer 0 { s with events := s.events &&& ~~~d.extractLsb' 0 3 })
  | irqEnabled (d : Word) : Effect s (.wrIrqEn d) (afterAnswer 0 { s with irqEn := d.extractLsb' 0 3 })
  | notBooted (hs : s.st = .preflight) (hb : booted s = false) : Effect s .stepPreflight (afterEnd .notBooted s)
  | allocates (hs : s.st = .preflight) (hb : booted s = true) (ht : teleEn s = true) (ha : s.tbufAlloc = false) :
    Effect s .stepPreflight (enterSyncing { s with
      tbufAlloc := true
      tel := (s.tel.write 0 [0x0F]).write 1 (zeroBytes 163) })
  | frees (hs : s.st = .preflight) (hb : booted s = true) (ht : teleEn s = false) (ha : s.tbufAlloc = true) :
    Effect s .stepPreflight (enterSyncing { s with tbufAlloc := false })
  | keeps (hs : s.st = .preflight) (hb : booted s = true) (ht : teleEn s = s.tbufAlloc) :
    Effect s .stepPreflight (enterSyncing s)
  | synced (hs : s.st = .syncing) (hd : s.syncDone = false) (hp : s.pulseDone = true) :
    Effect s .stepSync { s with syncDone := true, pulseDone := false }
  | accepts {i : Instr} (h : BitVec 32) (hi : ReadsHeader (headerStepOf s) h i) (hd : HeaderDue s)
      (hm : matchesHeader h s = true)
      (hr : s.stream = headerBytes h ++ s.stream.drop 4) : Effect s i (afterMatch h (afterHeaderRead h (s.stream.drop 4) s))
  | losesSync {i : Instr} (h : BitVec 32) (hi : ReadsHeader (headerStepOf s) h i) (hd : HeaderDue s)
      (hm : matchesHeader h s = false) (hr : s.stream = headerBytes h ++ s.stream.drop 4) :
    Effect s i { afterHeaderRead h (s.stream.drop 4) s with st := .resyncing, probe := 0 }
  | resumes {i : Instr} (h : BitVec 32) (hi : ReadsHeader .stepProbe h i) (hs : s.st = .resyncing)
      (hp : s.probe.toNat < 120) (hm : matchesHeader h s = true) (hr : s.stream = headerBytes h ++ s.stream.drop 4) :
    Effect s i (afterMatch h (afterProbeRead h (s.stream.drop 4) s))
  | newFrame {i : Instr} (h : BitVec 32) (hi : ReadsHeader .stepProbe h i) (hs : s.st = .resyncing)
      (hp : s.probe.toNat < 120) (hn : isNewframe h s = true) (hr : s.stream = headerBytes h ++ s.stream.drop 4) :
    Effect s i (afterNewFrame h (afterProbeRead h (s.stream.drop 4) s))
  | probes {i : Instr} (h : BitVec 32) (hi : ReadsHeader .stepProbe h i) (hs : s.st = .resyncing)
      (hp : s.probe.toNat < 120) (hm : matchesHeader h s = false) (hn : isNewframe h s = false) (hr : s.stream = headerBytes h ++ s.stream.drop 4) :
    Effect s i (afterProbeRead h (s.stream.drop 4) s)
  | exhausts (hs : s.st = .resyncing) (hp : s.probe.toNat = 120) :
    Effect s .stepExhaust (afterEnd .resyncExhausted s)
  | direct (pay rest : List Byte) (hs : s.st = .streaming) (hp : s.pend = .img) (hm : s.mode = .m80x60x16)
      (hl : s.line.toNat < 60) (hy : pay.length = 160) (hr : s.stream = pay ++ rest) :
    Effect s .stepPayload (afterPayload (directStored pay rest s))
  | slot (pay rest : List Byte) (hs : s.st = .streaming) (hp : s.pend = .img) (hm : s.mode ≠ .m80x60x16)
      (hk : slotOf s ≠ lpb s.mode - 1) (hy : pay.length = 160) (hr : s.stream = pay ++ rest) :
    Effect s .stepPayload (afterPayload { slotStored pay rest s with line := s.line + 1 })
  | band (pay rest : List Byte) (hs : s.st = .streaming) (hp : s.pend = .img) (hm : s.mode ≠ .m80x60x16)
      (hk : slotOf s = lpb s.mode - 1) (hy : pay.length = 160) (hr : s.stream = pay ++ rest) :
    Effect s .stepPayload (afterPayload { slotStored pay rest s with
      img := s.img.write (rowOffset s.mode (s.line.toNat / lpb s.mode)) (bandBytes (slotStored pay rest s))
      line := s.line + 1
      outRow := s.outRow + 1 })
  | telemetry (pay rest : List Byte) (hs : s.st = .streaming) (hp : s.pend = .telStore) (hy : pay.length = 160)
      (hr : s.stream = pay ++ rest) :
    Effect s .stepPayload (afterPayload { s with
      stream := rest
      tel := (s.tel.write 0 (headerBytes s.hdr)).write 4 pay
      tele := s.tele + 1 })
  | drops (pay rest : List Byte) (hs : s.st = .streaming) (hp : s.pend = .telDrop) (hy : pay.length = 160)
      (hr : s.stream = pay ++ rest) :
    Effect s .stepPayload (afterPayload { s with stream := rest, tele := s.tele + 1 })

/-! ## The model's operations as the rules' next states -/

theorem terminate_eq (code : Result) (s : State) : terminate code s = afterEnd code s := rfl

theorem finishPayload_eq (s : State) : finishPayload s = afterPayload s := by
  unfold finishPayload checkComplete afterPayload targetsMet
  by_cases h1 : s.outRow.toNat = height s.mode <;> cases h2 : teleEn s <;> by_cases h3 : s.tele = 3 <;>
    simp [h1, h3, terminate_eq] <;> rw [show teleEn { s with pend := Pend.none } = teleEn s from rfl, h2] <;> simp

theorem classifyHeader_eq (h : BitVec 32) (rest : List Byte) (s : State) :
    classifyHeader h (latchHeader h { s with stream := rest }) = afterHeaderStep h rest s := by
  have ht : isTele h (latchHeader h { s with stream := rest }) = isTele h s := rfl
  have hi : isImage h (latchHeader h { s with stream := rest }) = isImage h s := rfl
  have ht' : isTele h (afterHeaderRead h rest s) = isTele h s := rfl
  unfold classifyHeader afterHeaderStep matchesHeader afterMatch
  rw [ht, hi, ht']
  cases isTele h s <;> cases isImage h s <;> rfl

theorem acceptMatch_eq (h : BitVec 32) (s : State) : acceptMatch h s = afterMatch h s := by
  unfold acceptMatch afterMatch
  cases isTele h s <;> rfl

theorem newFrame_eq (h : BitVec 32) (s : State) : Machine.newFrame h s = afterNewFrame h s := by
  unfold afterNewFrame
  rcases newFrame_cases h s with ⟨hk, he⟩ | ⟨hk, he⟩
  · rw [he, if_pos (BitVec.eq_of_toNat_eq hk), terminate_eq]
  · rw [he, if_neg (fun h5 => hk (by rw [h5]; rfl)), restartFrame, acceptMatch_eq]

theorem classifyProbe_eq (h : BitVec 32) (rest : List Byte) (s : State) :
    classifyProbe h (latchProbe h { s with stream := rest }) = afterProbeStep h rest s := by
  have hm : matchesHeader h (latchProbe h { s with stream := rest }) = matchesHeader h s := rfl
  have hn : isNewframe h (latchProbe h { s with stream := rest }) = isNewframe h s := rfl
  unfold classifyProbe
  rw [hm, hn, acceptMatch_eq, newFrame_eq]
  rfl

/-! ## The header rows -/

theorem headerStands_iff (h : BitVec 32) (s : State) :
    headerStands h s = true ↔ s.stream = headerBytes h ++ s.stream.drop 4 := by
  unfold headerStands
  constructor
  · intro hb
    rw [← of_decide_eq_true hb]
    exact (List.take_append_drop 4 s.stream).symm
  · intro hr
    rw [hr]
    simp [headerBytes]

theorem headerEnabled_iff (k : HeaderClass) (h : BitVec 32) (s : State) :
    headerEnabled k h s = true ↔
      headerDue s = true ∧ headerStands h s = true ∧ headerClass (headerContext s) h = k := by
  simp [headerEnabled, and_assoc]

theorem headerDue_cases (s : State) (h : headerDue s = true) :
    HeaderDue s ∨ s.st = .resyncing ∧ s.probe.toNat < 120 := by
  unfold headerDue at h
  unfold HeaderDue
  cases hs : s.st <;> rw [hs] at h
  · cases h
  · cases h
  · exact .inl (.inl ⟨rfl, h⟩)
  · exact .inl (.inr ⟨rfl, of_decide_eq_true h⟩)
  · exact .inr ⟨rfl, of_decide_eq_true h⟩

/-- The five classes against the predicates. -/
theorem headerClass_cases (h : BitVec 32) (s : State) :
    (headerClass (headerContext s) h = .discard ∧ isDiscard h = true ∧ matchesHeader h s = false ∧
      isNewframe h s = false) ∨
    (headerClass (headerContext s) h = .telemetry ∧ isTele h s = true ∧ matchesHeader h s = true) ∨
    (headerClass (headerContext s) h = .image ∧ isTele h s = false ∧ isImage h s = true ∧
      matchesHeader h s = true) ∨
    (headerClass (headerContext s) h = .newframe ∧ s.st = .resyncing ∧ matchesHeader h s = false ∧
      isNewframe h s = true) ∨
    (headerClass (headerContext s) h = .outOfSync ∧ isDiscard h = false ∧ matchesHeader h s = false ∧
      (s.st = .resyncing → isNewframe h s = false)) := by
  unfold headerClass headerContext isNewframe matchesHeader isTele isImage
  cases isDiscard h <;> cases inWindow s <;> cases decide (s.line.toNat < Config.rawH) <;>
    cases lineMatches h s.line <;> by_cases h0 : headerLine h = 0 <;> by_cases hr : s.st = .resyncing <;>
    simp [h0, hr, em]

theorem takeHeader_due (h : BitVec 32) (s : State) (hd : HeaderDue s) :
    takeHeader h s = afterHeaderRead h (s.stream.drop 4) s := by
  unfold takeHeader
  split
  · rename_i hs; rcases hd with ⟨h1, -⟩ | ⟨h1, -⟩ <;> rw [h1] at hs <;> cases hs
  · rfl

theorem takeHeader_probe (h : BitVec 32) (s : State) (hs : s.st = .resyncing) :
    takeHeader h s = afterProbeRead h (s.stream.drop 4) s := by
  unfold takeHeader
  split
  · rfl
  · rename_i h1; exact absurd hs h1

theorem headerStepOf_not_host (s : State) : ¬HostRow (headerStepOf s) := by
  unfold headerStepOf
  split <;> decide

/-- An instruction that reads a header is no host transaction's. -/
theorem readsHeader_not_host {k i : Instr} {h : BitVec 32} (hk : ¬HostRow k) (hi : ReadsHeader k h i) :
    ¬HostRow i := by
  rcases hi with rfl | rfl | rfl | rfl | rfl | rfl
  · exact hk
  all_goals exact fun hp => nomatch hp

/-- An instruction that reads a header, where a HEADER step is due. -/
theorem headerStep_read {i : Instr} {h : BitVec 32} {s : State} (hi : ReadsHeader (headerStepOf s) h i)
    (hd : HeaderDue s) (hr : s.stream = headerBytes h ++ s.stream.drop 4) :
    Effect s i (afterHeaderStep h (s.stream.drop 4) s) := by
  unfold afterHeaderStep
  cases hm : matchesHeader h s
  · exact .losesSync h hi hd hm hr
  · exact .accepts h hi hd hm hr

/-- An instruction that reads a header, where a PROBE step is due. -/
theorem probeStep_read {i : Instr} {h : BitVec 32} {s : State} (hi : ReadsHeader .stepProbe h i)
    (hs : s.st = .resyncing) (hp : s.probe.toNat < 120) (hr : s.stream = headerBytes h ++ s.stream.drop 4) :
    Effect s i (afterProbeStep h (s.stream.drop 4) s) := by
  unfold afterProbeStep
  cases hm : matchesHeader h s
  · cases hn : isNewframe h s
    · exact .probes h hi hs hp hm hn hr
    · exact .newFrame h hi hs hp hn hr
  · exact .resumes h hi hs hp hm hr

/-- What the five header rows do where they are enabled, in the terms of the rules. -/
theorem execHdr_eq (h : BitVec 32) (s : State) :
    (headerDue s = true → headerStands h s = true → headerClass (headerContext s) h = .discard →
      execHdrDiscard h s = .next (noMatch (takeHeader h s))) ∧
    (headerDue s = true → headerStands h s = true → headerClass (headerContext s) h = .telemetry →
      execHdrTelemetry h s = .next (acceptTelemetry (toStreaming (takeHeader h s)))) ∧
    (headerDue s = true → headerStands h s = true → headerClass (headerContext s) h = .image →
      execHdrImage h s = .next (acceptImage (toStreaming (takeHeader h s)))) ∧
    (headerDue s = true → headerStands h s = true → headerClass (headerContext s) h = .newframe →
      execHdrNewframe h s = .next (Machine.newFrame h (takeHeader h s))) ∧
    (headerDue s = true → headerStands h s = true → headerClass (headerContext s) h = .outOfSync →
      execHdrOutOfSync h s = .next (noMatch (takeHeader h s))) := by
  refine ⟨?_, ?_, ?_, ?_, ?_⟩ <;> intro hd hb hc
  · rw [execHdrDiscard, if_pos ((headerEnabled_iff _ _ _).mpr ⟨hd, hb, hc⟩)]
  · rw [execHdrTelemetry, if_pos ((headerEnabled_iff _ _ _).mpr ⟨hd, hb, hc⟩)]
  · rw [execHdrImage, if_pos ((headerEnabled_iff _ _ _).mpr ⟨hd, hb, hc⟩)]
  · rw [execHdrNewframe, if_pos ((headerEnabled_iff _ _ _).mpr ⟨hd, hb, hc⟩)]
  · rw [execHdrOutOfSync, if_pos ((headerEnabled_iff _ _ _).mpr ⟨hd, hb, hc⟩)]

/-- Where a header row is not enabled it waits. -/
theorem execHdr_waits (h : BitVec 32) (s : State) :
    (headerEnabled .discard h s = false → execHdrDiscard h s = .next s) ∧
    (headerEnabled .telemetry h s = false → execHdrTelemetry h s = .next s) ∧
    (headerEnabled .image h s = false → execHdrImage h s = .next s) ∧
    (headerEnabled .newframe h s = false → execHdrNewframe h s = .next s) ∧
    (headerEnabled .outOfSync h s = false → execHdrOutOfSync h s = .next s) := by
  refine ⟨?_, ?_, ?_, ?_, ?_⟩ <;> intro he
  · rw [execHdrDiscard, he]; rfl
  · rw [execHdrTelemetry, he]; rfl
  · rw [execHdrImage, he]; rfl
  · rw [execHdrNewframe, he]; rfl
  · rw [execHdrOutOfSync, he]; rfl

theorem acceptTelemetry_eq (h : BitVec 32) (s : State) (ht : isTele h s = true) :
    acceptTelemetry (toStreaming s) = afterMatch h s := by
  unfold afterMatch acceptTelemetry toStreaming
  rw [ht]; rfl

theorem acceptImage_eq (h : BitVec 32) (s : State) (ht : isTele h s = false) :
    acceptImage (toStreaming s) = afterMatch h s := by
  unfold afterMatch acceptImage toStreaming
  rw [ht]; rfl

/-- The header row of a header's class does what the HEADER or the PROBE step does with that header. -/
theorem execHdr_class (h : BitVec 32) (s : State) (hd : headerDue s = true) (hb : headerStands h s = true) :
    exec (decodeHeader (headerContext s) h) s = .next
      (if s.st = .resyncing then afterProbeStep h (s.stream.drop 4) s
      else afterHeaderStep h (s.stream.drop 4) s) := by
  obtain ⟨e1, e2, e3, e4, e5⟩ := execHdr_eq h s
  have hk : (s.st = .resyncing ∧ takeHeader h s = afterProbeRead h (s.stream.drop 4) s) ∨
      (s.st ≠ .resyncing ∧ takeHeader h s = afterHeaderRead h (s.stream.drop 4) s) := by
    rcases headerDue_cases s hd with hq | ⟨hq, _⟩
    · refine .inr ⟨?_, takeHeader_due h s hq⟩
      rcases hq with ⟨hq, _⟩ | ⟨hq, _⟩ <;> rw [hq] <;> decide
    · exact .inl ⟨hq, takeHeader_probe h s hq⟩
  have t1 : isTele h (afterProbeRead h (s.stream.drop 4) s) = isTele h s := rfl
  have t2 : isTele h (afterHeaderRead h (s.stream.drop 4) s) = isTele h s := rfl
  have n1 : s.st = .resyncing → noMatch (afterProbeRead h (s.stream.drop 4) s) =
      afterProbeRead h (s.stream.drop 4) s := fun hs => by simp [noMatch, afterProbeRead, hs]
  have n2 : s.st ≠ .resyncing → noMatch (afterHeaderRead h (s.stream.drop 4) s) =
      { afterHeaderRead h (s.stream.drop 4) s with st := .resyncing, probe := 0 } := fun hs => by
    rcases noMatch_cases (afterHeaderRead h (s.stream.drop 4) s) with ⟨hq, _⟩ | ⟨_, he⟩
    · exact absurd hq hs
    · exact he
  rcases headerClass_cases h s with ⟨hc, _, hm, hn⟩ | ⟨hc, ht, hm⟩ | ⟨hc, ht, _, hm⟩ | ⟨hc, hr, hm, hn⟩ | ⟨hc, _, hm, hn⟩ <;>
    rw [decodeHeader, hc, afterProbeStep, afterHeaderStep, hm]
  · show execHdrDiscard h s = _
    rw [e1 hd hb hc]
    rcases hk with ⟨hs, hk⟩ | ⟨hs, hk⟩
    · rw [hk, if_pos hs, n1 hs, hn]; rfl
    · rw [hk, if_neg hs, n2 hs]; rfl
  · show execHdrTelemetry h s = _
    rw [e2 hd hb hc]
    rcases hk with ⟨hs, hk⟩ | ⟨hs, hk⟩
    · rw [hk, if_pos hs, acceptTelemetry_eq h _ (t1.trans ht)]; rfl
    · rw [hk, if_neg hs, acceptTelemetry_eq h _ (t2.trans ht)]; rfl
  · show execHdrImage h s = _
    rw [e3 hd hb hc]
    rcases hk with ⟨hs, hk⟩ | ⟨hs, hk⟩
    · rw [hk, if_pos hs, acceptImage_eq h _ (t1.trans ht)]; rfl
    · rw [hk, if_neg hs, acceptImage_eq h _ (t2.trans ht)]; rfl
  · show execHdrNewframe h s = _
    rw [e4 hd hb hc, newFrame_eq]
    rcases hk with ⟨hs, hk⟩ | ⟨hs, hk⟩
    · rw [hk, if_pos hs, hn]; rfl
    · exact absurd hr hs
  · show execHdrOutOfSync h s = _
    rw [e5 hd hb hc]
    rcases hk with ⟨hs, hk⟩ | ⟨hs, hk⟩
    · rw [hk, if_pos hs, n1 hs, hn hs]; rfl
    · rw [hk, if_neg hs, n2 hs]; rfl

/-- A header row that is not enabled waits. -/
theorem execHdr_other (h : BitVec 32) (s t : State) (i : Instr)
    (hi : i = .hdrDiscard h ∨ i = .hdrTelemetry h ∨ i = .hdrImage h ∨ i = .hdrNewframe h ∨ i = .hdrOutOfSync h)
    (he : exec i s = .next t) :
    t = s ∨ headerDue s = true ∧ headerStands h s = true ∧ i = decodeHeader (headerContext s) h := by
  have key : ∀ k, headerEnabled k h s = true →
      headerDue s = true ∧ headerStands h s = true ∧ headerClass (headerContext s) h = k :=
    fun k hk => (headerEnabled_iff k h s).mp hk
  have wait : exec i s = .next s → t = s := fun hw => (Host.Outcome.next.inj (hw.symm.trans he)).symm
  obtain ⟨w1, w2, w3, w4, w5⟩ := execHdr_waits h s
  rcases hi with rfl | rfl | rfl | rfl | rfl
  · rcases hb : headerEnabled .discard h s
    · exact .inl (wait (w1 hb))
    · exact .inr ⟨(key _ hb).1, (key _ hb).2.1, by rw [decodeHeader, (key _ hb).2.2]⟩
  · rcases hb : headerEnabled .telemetry h s
    · exact .inl (wait (w2 hb))
    · exact .inr ⟨(key _ hb).1, (key _ hb).2.1, by rw [decodeHeader, (key _ hb).2.2]⟩
  · rcases hb : headerEnabled .image h s
    · exact .inl (wait (w3 hb))
    · exact .inr ⟨(key _ hb).1, (key _ hb).2.1, by rw [decodeHeader, (key _ hb).2.2]⟩
  · rcases hb : headerEnabled .newframe h s
    · exact .inl (wait (w4 hb))
    · exact .inr ⟨(key _ hb).1, (key _ hb).2.1, by rw [decodeHeader, (key _ hb).2.2]⟩
  · rcases hb : headerEnabled .outOfSync h s
    · exact .inl (wait (w5 hb))
    · exact .inr ⟨(key _ hb).1, (key _ hb).2.1, by rw [decodeHeader, (key _ hb).2.2]⟩

/-- A header row that answers waits or has an effect of a header read. -/
theorem execHdr_effect (h : BitVec 32) (s t : State) (i : Instr)
    (hi : i = .hdrDiscard h ∨ i = .hdrTelemetry h ∨ i = .hdrImage h ∨ i = .hdrNewframe h ∨ i = .hdrOutOfSync h)
    (he : exec i s = .next t) : Effect s i t := by
  have hw : ¬HostRow i := by
    rcases hi with rfl | rfl | rfl | rfl | rfl <;> simp [HostRow, portOf]
  rcases execHdr_other h s t i hi he with rfl | ⟨hd, hb, hk⟩
  · exact .waits hw
  · have hq := Host.Outcome.next.inj ((execHdr_class h s hd hb).symm.trans (hk ▸ he))
    have hr := (headerStands_iff h s).mp hb
    rcases headerDue_cases s hd with hdue | ⟨hs, hp⟩
    · rw [if_neg (by rcases hdue with ⟨hq, _⟩ | ⟨hq, _⟩ <;> rw [hq] <;> decide)] at hq
      exact hq ▸ headerStep_read (.inr hi) hdue hr
    · rw [if_pos hs] at hq
      exact hq ▸ probeStep_read (.inr hi) hs hp hr

/-! ## The engine steps -/

theorem streamRead_split {n : Nat} {s t : State} {bytes : List Byte} (h : streamRead n s = some (bytes, t)) :
    bytes.length = n ∧ s.stream = bytes ++ t.stream ∧ t = { s with stream := t.stream } := by
  obtain ⟨hl, rfl, rfl⟩ := streamRead_eq_some h
  simp [hl]

theorem stepPreflight_effect {s t : State} (h : execStepPreflight s = .next t) : Effect s .stepPreflight t := by
  unfold execStepPreflight at h
  split at h
  · rename_i hs
    split at h
    · rename_i hb
      obtain ⟨u, hu, h⟩ := andThen_eq_next h
      obtain rfl := Host.Outcome.next.inj h
      rcases telemetryBufferMatch_cases s with ⟨ht, ha, he⟩ | ⟨ht, ha, he⟩ | ⟨ht, he⟩ <;>
        obtain rfl := Host.Outcome.next.inj (he.symm.trans hu)
      · exact .allocates hs hb ht ha
      · exact .frees hs hb ht ha
      · exact .keeps hs hb ht
    · rename_i hb
      obtain rfl := Host.Outcome.next.inj h
      exact .notBooted hs (by simpa using hb)
  · obtain rfl := waiting_eq_next h
    exact .waits (by decide)

theorem stepSync_effect {s t : State} (h : execStepSync s = .next t) : Effect s .stepSync t := by
  unfold execStepSync at h
  split at h
  · rename_i hs
    obtain rfl := Host.Outcome.next.inj h
    exact .synced hs.1 (by simpa using hs.2.1) hs.2.2
  · obtain rfl := waiting_eq_next h
    exact .waits (by decide)

/-- What a HEADER step with its header ready does. -/
theorem headerStep_next (h : BitVec 32) (rest : List Byte) (s : State) (hs : s.stream = headerBytes h ++ rest) :
    headerStep s = .next (afterHeaderStep h rest s) := by
  have hr : streamRead Config.hdrBytes s = some (headerBytes h, { s with stream := rest }) := by
    rw [streamRead_enough _ _ (by rw [hs]; simp [headerBytes])]
    simp [hs, headerBytes]
  rw [headerStep, hr]
  show Host.Outcome.next _ = _
  rw [headerOf_headerBytes, classifyHeader_eq]

/-- Four bytes read are the bytes of the header they make. -/
theorem streamRead_header {s u : State} {bytes : List Byte} (h : streamRead Config.hdrBytes s = some (bytes, u)) :
    s.stream = headerBytes (headerOf bytes) ++ s.stream.drop 4 := by
  obtain ⟨hl, hb, _⟩ := streamRead_eq_some h
  have h4 : bytes.length = 4 := by rw [hb]; simpa using hl
  rw [headerBytes_headerOf bytes h4, hb]
  exact (List.take_append_drop 4 s.stream).symm

theorem headerStep_cases {s t : State} (h : headerStep s = .next t) :
    t = s ∨ ∃ k, s.stream = headerBytes k ++ s.stream.drop 4 ∧ t = afterHeaderStep k (s.stream.drop 4) s := by
  unfold headerStep at h
  split at h
  · exact .inl (waiting_eq_next h)
  · rename_i bytes u hu
    obtain ⟨_, _, hq⟩ := streamRead_eq_some hu
    refine .inr ⟨headerOf bytes, streamRead_header hu, ?_⟩
    rw [← classifyHeader_eq]
    rw [hq] at h
    exact (Host.Outcome.next.inj h).symm

theorem headerStep_effect {s t : State} (hd : HeaderDue s)
    (h : headerStep s = .next t) : Effect s (headerStepOf s) t := by
  rcases headerStep_cases h with rfl | ⟨k, hr, rfl⟩
  · exact .waits (headerStepOf_not_host _)
  · exact headerStep_read (.inl rfl) hd hr

theorem stepHeaderSyncing_effect {s t : State} (h : execStepHeaderSyncing s = .next t) :
    Effect s .stepHeaderSyncing t := by
  unfold execStepHeaderSyncing at h
  split at h
  · rename_i hs
    have hk : headerStepOf s = .stepHeaderSyncing := if_pos hs.1
    exact hk ▸ headerStep_effect (.inl hs) h
  · obtain rfl := waiting_eq_next h
    exact .waits (by decide)

theorem stepHeaderStreaming_effect {s t : State} (h : execStepHeaderStreaming s = .next t) :
    Effect s .stepHeaderStreaming t := by
  unfold execStepHeaderStreaming at h
  split at h
  · rename_i hs
    have hk : headerStepOf s = .stepHeaderStreaming := if_neg (by rw [hs.1]; decide)
    exact hk ▸ headerStep_effect (.inr hs) h
  · obtain rfl := waiting_eq_next h
    exact .waits (by decide)

/-- What a PROBE step with its header ready does. -/
theorem stepProbe_next (h : BitVec 32) (rest : List Byte) (s : State) (hs : s.st = .resyncing)
    (hp : s.probe.toNat < 120) (hr : s.stream = headerBytes h ++ rest) :
    execStepProbe s = .next (afterProbeStep h rest s) := by
  have hq : streamRead Config.hdrBytes s = some (headerBytes h, { s with stream := rest }) := by
    rw [streamRead_enough _ _ (by rw [hr]; simp [headerBytes])]
    simp [hr, headerBytes]
  rw [execStepProbe, if_pos ⟨hs, hp⟩, hq]
  show Host.Outcome.next _ = _
  rw [headerOf_headerBytes, classifyProbe_eq]

theorem stepProbe_effect {s t : State} (h : execStepProbe s = .next t) : Effect s .stepProbe t := by
  unfold execStepProbe at h
  split at h
  · rename_i hs
    split at h
    · obtain rfl := waiting_eq_next h
      exact .waits (by decide)
    · rename_i bytes u hu
      obtain ⟨_, _, hq⟩ := streamRead_eq_some hu
      have ht := (Host.Outcome.next.inj h).symm
      rw [hq] at ht
      have ht := ht.trans (classifyProbe_eq (headerOf bytes) (s.stream.drop 4) s)
      subst ht
      exact probeStep_read (.inl rfl) hs.1 hs.2 (streamRead_header hu)
  · obtain rfl := waiting_eq_next h
    exact .waits (by decide)

theorem stepExhaust_effect {s t : State} (h : execStepExhaust s = .next t) : Effect s .stepExhaust t := by
  unfold execStepExhaust at h
  split at h
  · rename_i hs
    obtain rfl := Host.Outcome.next.inj h
    exact .exhausts hs.1 hs.2
  · obtain rfl := waiting_eq_next h
    exact .waits (by decide)

/-! ## Payloads -/

/-- The last line of a band and its row: everything the scratch path can do (43_reassembly.md R312). -/
theorem storeScratch_cases (pay rest : List Byte) (s : State) (h : pay.length = 160) :
    (slotOf s ≠ lpb s.mode - 1 ∧
      storeScratch pay { s with stream := rest } = .next { slotStored pay rest s with line := s.line + 1 }) ∨
    (slotOf s = lpb s.mode - 1 ∧
      storeScratch pay { s with stream := rest } = .next { slotStored pay rest s with
        img := s.img.write (rowOffset s.mode (s.line.toNat / lpb s.mode)) (bandBytes (slotStored pay rest s))
        line := s.line + 1
        outRow := s.outRow + 1 }) ∨
    slotOf s = lpb s.mode - 1 ∧
      9600 < rowOffset s.mode (s.line.toNat / lpb s.mode) + width s.mode * bpp s.mode ∧
      ∃ r, storeScratch pay { s with stream := rest } = .fault r := by
  have h1 : storeSlot pay { s with stream := rest } = .next (slotStored pay rest s) := storeSlot_next pay _ h
  have h2 : slotOf (slotStored pay rest s) = slotOf s := rfl
  have h3 : (slotStored pay rest s).mode = s.mode := rfl
  have h4 : (slotStored pay rest s).line = s.line := rfl
  have h5 : ramCells .img (slotStored pay rest s) = s.img := rfl
  rw [storeScratch, h1, andThen_next, completeBand, h2, h3, h4]
  by_cases hk : slotOf s = lpb s.mode - 1
  · rw [if_pos hk, downsampleRow, h3]
    rcases memWrite_cases .img (rowOffset s.mode (s.line.toNat / lpb s.mode)) (bandBytes (slotStored pay rest s))
      (slotStored pay rest s) with ⟨_, he⟩ | ⟨hr, he⟩
    · rw [he, h5]; exact .inr (.inl ⟨hk, rfl⟩)
    · rw [bandBytes_length] at hr
      rw [he]; exact .inr (.inr ⟨hk, hr, _, rfl⟩)
  · rw [if_neg hk]; exact .inl ⟨hk, rfl⟩

/-- Where a payload goes, by what is owed (42_synchronizer.md R275). -/
theorem storePayload_pend (pay : List Byte) (s : State) :
    (s.pend = .img → storePayload pay s = storeImageLine pay s) ∧
    (s.pend = .telStore → storePayload pay s = storeTelemetry pay s) ∧
    (s.pend = .telDrop → storePayload pay s = .next (advanceTele s)) := by
  unfold storePayload
  refine ⟨fun h => ?_, fun h => ?_, fun h => ?_⟩ <;> rw [h]

/-- A payload that is owed and ready goes on to the completion test. -/
theorem stepPayload_next (pay rest : List Byte) (s u : State) (hs : s.st = .streaming) (hp : s.pend ≠ .none)
    (hy : pay.length = 160) (hr : s.stream = pay ++ rest)
    (hq : storePayload pay { s with stream := rest } = .next u) : execStepPayload s = .next (afterPayload u) := by
  have h1 : streamRead Config.payBytes s = some (pay, { s with stream := rest }) := by
    rw [streamRead_enough _ _ (by rw [hr]; simp [hy])]
    simp [hr, hy]
  rw [execStepPayload, if_pos ⟨hs, hp⟩, h1]
  show andThen (storePayload pay _) _ = _
  rw [hq, andThen_next, finishPayload_eq]

theorem storeImage_direct (pay rest : List Byte) (s : State) (hp : s.pend = .img) (hm : s.mode = .m80x60x16) :
    storePayload pay { s with stream := rest } = storeDirect pay { s with stream := rest } :=
  ((storePayload_pend pay { s with stream := rest }).1 hp).trans (if_pos (decide_eq_true hm))

theorem storeImage_scratch (pay rest : List Byte) (s : State) (hp : s.pend = .img) (hm : s.mode ≠ .m80x60x16) :
    storePayload pay { s with stream := rest } = storeScratch pay { s with stream := rest } :=
  ((storePayload_pend pay { s with stream := rest }).1 hp).trans (if_neg fun h => hm (of_decide_eq_true h))

theorem stepPayload_effect {s t : State} (h : execStepPayload s = .next t) : Effect s .stepPayload t := by
  unfold execStepPayload at h
  split at h
  · rename_i hs
    split at h
    · obtain rfl := waiting_eq_next h
      exact .waits (by decide)
    · rename_i pay u hu
      obtain ⟨hl, hr, hq⟩ := streamRead_split hu
      obtain ⟨v, hv, h⟩ := andThen_eq_next h
      obtain rfl := (Host.Outcome.next.inj h).symm
      rw [finishPayload_eq]
      rw [hq] at hv
      obtain ⟨p1, p2, p3⟩ := storePayload_pend pay { s with stream := u.stream }
      cases hpd : s.pend
      · exact absurd hpd hs.2
      · have hv' : storeImageLine pay { s with stream := u.stream } = .next v := (p1 hpd).symm.trans hv
        rw [storeImageLine] at hv'
        split at hv'
        · rename_i hd
          have hm : s.mode = .m80x60x16 := of_decide_eq_true hd
          rw [storeDirect] at hv'
          obtain ⟨w, hw, hv'⟩ := andThen_eq_next hv'
          obtain ⟨hle, rfl⟩ := memWrite_eq_next hw
          obtain rfl := Host.Outcome.next.inj hv'
          have ho : rowOffset s.mode s.line.toNat = s.line.toNat * 160 := by rw [hm]; rfl
          have hlt : s.line.toNat < 60 := by
            have : rowOffset s.mode s.line.toNat + pay.length ≤ 9600 := hle
            rw [ho, hl] at this
            simp only [Config.payBytes] at this
            omega
          have := Effect.direct pay u.stream hs.1 hpd hm hlt hl hr
          rw [directStored, ← ho] at this
          exact this
        · rename_i hd
          have hm : s.mode ≠ .m80x60x16 := fun hm => hd (decide_eq_true hm)
          rcases storeScratch_cases pay u.stream s hl with ⟨hk, he⟩ | ⟨hk, he⟩ | ⟨_, _, r, he⟩
          · obtain rfl := Host.Outcome.next.inj (he.symm.trans hv')
            exact .slot pay _ hs.1 hpd hm hk hl hr
          · obtain rfl := Host.Outcome.next.inj (he.symm.trans hv')
            exact .band pay _ hs.1 hpd hm hk hl hr
          · exact absurd (he.symm.trans hv') (by simp)
      · obtain rfl := Host.Outcome.next.inj (((p2 hpd).trans (storeTelemetry_next pay _ hl)).symm.trans hv)
        exact .telemetry pay _ hs.1 hpd hl hr
      · obtain rfl := Host.Outcome.next.inj ((p3 hpd).symm.trans hv)
        exact .drops pay _ hs.1 hpd hl hr
  · obtain rfl := waiting_eq_next h
    exact .waits (by decide)

/-! ## The host's transactions -/

theorem answer_effect {i : Instr} {v : Word} {s t : State} (hi : HostRow i) (h : answer v s = .next t) :
    Effect s i t := answer_eq_next h ▸ .answers v hi

theorem raise_effect {i : Instr} {c : BusError} {a : Word} {s t : State} (hi : HostRow i)
    (h : raiseBusError c a s = .next t) : Effect s i t := raiseBusError_eq_next h ▸ .raises c a hi

theorem readTelemetry_effect {i : Instr} {a v : Word} {s t : State} (hi : HostRow i)
    (h : readTelemetry a v s = .next t) : Effect s i t := by
  unfold readTelemetry at h
  split at h
  · exact raise_effect hi h
  · split at h
    · exact raise_effect hi h
    · split at h
      · exact raise_effect hi h
      · exact answer_effect hi h

theorem busy_iff (s : State) : busy s = true ↔ s.st ≠ .idle := by simp [busy]

theorem wrCtrl_effect {d : Word} {s t : State} (h : execWrCtrl d s = .next t) : Effect s (.wrCtrl d) t := by
  unfold execWrCtrl at h
  split at h
  · exact answer_effect rfl h
  · rename_i hd
    split at h
    · rename_i hb
      exact answer_eq_next h ▸ .startIgnored d (by simpa using hd) ((busy_iff s).mp hb)
    · rename_i hb
      exact answer_eq_next h ▸ .start d (by simpa using hd) (by simpa [busy_iff] using hb)

theorem wrMode_effect {d : Word} {s t : State} (h : execWrMode d s = .next t) : Effect s (.wrMode d) t := by
  unfold execWrMode at h
  split at h
  · exact raise_effect rfl h
  · rename_i hb
    split at h
    · exact raise_effect rfl h
    · rename_i m hm
      exact answer_eq_next h ▸ .mode d m (by simpa [busy_iff] using hb) hm

theorem wrPreflight_effect {d : Word} {s t : State} (h : execWrPreflight d s = .next t) :
    Effect s (.wrPreflight d) t := by
  unfold execWrPreflight at h
  split at h
  · exact raise_effect rfl h
  · rename_i hb
    exact answer_eq_next h ▸ .preflight d (by simpa [busy_iff] using hb)

theorem rdImg_effect {a : Word} {s t : State} (h : execRdImg a s = .next t) : Effect s (.rdImg a) t := by
  unfold execRdImg at h
  dsimp only at h
  split at h
  · exact raise_effect rfl h
  · split at h
    · exact raise_effect rfl h
    · exact answer_effect rfl h

theorem rdTraw_effect {a : Word} {s t : State} (h : execRdTraw a s = .next t) : Effect s (.rdTraw a) t := by
  unfold execRdTraw at h
  split at h
  · exact raise_effect rfl h
  · split at h
    · exact raise_effect rfl h
    · exact answer_effect rfl h

/-- Everything exec can answer. -/
theorem exec_effect (i : Instr) (s t : State) (h : exec i s = .next t) : Effect s i t := by
  cases i
  case hdrDiscard k => exact execHdr_effect k s t _ (.inl rfl) h
  case hdrTelemetry k => exact execHdr_effect k s t _ (.inr (.inl rfl)) h
  case hdrImage k => exact execHdr_effect k s t _ (.inr (.inr (.inl rfl))) h
  case hdrNewframe k => exact execHdr_effect k s t _ (.inr (.inr (.inr (.inl rfl)))) h
  case hdrOutOfSync k => exact execHdr_effect k s t _ (.inr (.inr (.inr (.inr rfl)))) h
  case stepPreflight => exact stepPreflight_effect h
  case stepSync => exact stepSync_effect h
  case stepHeaderSyncing => exact stepHeaderSyncing_effect h
  case stepHeaderStreaming => exact stepHeaderStreaming_effect h
  case stepPayload => exact stepPayload_effect h
  case stepProbe => exact stepProbe_effect h
  case stepExhaust => exact stepExhaust_effect h
  case wrCtrl d => exact wrCtrl_effect h
  case wrMode d => exact wrMode_effect h
  case wrPreflight d => exact wrPreflight_effect h
  case wrEvents d => exact answer_eq_next h ▸ .acknowledged d
  case wrIrqEn d => exact answer_eq_next h ▸ .irqEnabled d
  case rdImg a => exact rdImg_effect h
  case rdTraw a => exact rdTraw_effect h
  all_goals first
    | exact answer_effect rfl h
    | exact raise_effect rfl h
    | exact readTelemetry_effect rfl h

end Sys2Proof.Machine
end

