-- ==== Sys2Proof/Tests/Slice0.lean ====
section
/-! SUPPORT. The row's own tests: ill-formed terms refused, words of the opcode table decoded, one-step tests with the
values of spec/95_test_vectors.md, and for every statement with hypotheses a witness that meets them. -/

namespace Sys2Proof

-- One declaration at a time: the tests evaluate in the kernel, and many at once would need many threads.
set_option Elab.async false

/-! ## Ill-formed terms -/

/-- A header row's condition is checked in its context: a discard is no telemetry or image, an image line must be the
expected one below 60, a new frame needs a probe (30_encoding.md R147). -/
theorem test_ill_formed_headers :
    let open7 : HeaderContext := { window := true, line := 7, probing := false }
    let at7 : HeaderContext := { window := false, line := 7, probing := false }
    let at60 : HeaderContext := { window := false, line := 60, probing := true }
    let probe7 : HeaderContext := { window := false, line := 7, probing := true }
    wellFormed at7 (.hdrDiscard 0x0F070000) = false ∧
    wellFormed open7 (.hdrTelemetry 0xF0070000) = false ∧ wellFormed at7 (.hdrTelemetry 0x00070000) = false ∧
    wellFormed at7 (.hdrImage 0x00080000) = false ∧ wellFormed at7 (.hdrImage 0xF0070000) = false ∧
    wellFormed open7 (.hdrImage 0x00070000) = false ∧ wellFormed at60 (.hdrImage 0x003C0000) = false ∧
    wellFormed at7 (.hdrNewframe 0x00000000) = false ∧ wellFormed probe7 (.hdrNewframe 0x00080000) = false ∧
    wellFormed probe7 (.hdrNewframe 0xF0000000) = false ∧
    wellFormed at7 (.hdrOutOfSync 0x00070000) = false ∧ wellFormed probe7 (.hdrOutOfSync 0x00000000) = false ∧
    wellFormed open7 (.hdrOutOfSync 0x00080000) = false ∧ wellFormed at7 (.hdrOutOfSync 0xF0080000) = false := by
  decide

/-- A window, telemetry, unmapped or odd access needs an address of its range (10_state.md R31, R62). -/
theorem test_ill_formed_addresses :
    let c := resetContext
    wellFormed c (.rdImg 0x6580) = false ∧ wellFormed c (.rdImg 0x4001) = false ∧
    wellFormed c (.wrImgRo 0x3FFE 0) = false ∧ wellFormed c (.rdTraw 0x02A4) = false ∧
    wellFormed c (.wrTrawRo 0x0201 0) = false ∧ wellFormed c (.wrTfieldRo 0x013E 0) = false ∧
    wellFormed c (.accUnmapped (.rd 0x0028)) = false ∧ wellFormed c (.accUnmapped (.wr 0x002B 0)) = false ∧
    wellFormed c (.accMisaligned (.rd 0x0002)) = false := by
  decide

/-! ## Decoding -/

/-- The reads of control registers: rw 0, one even address each.
T is written out from 30_encoding.md R150 and spec/opcode_table.json, then wdata 0x1234. -/
theorem test_decode_control_reads :
  decode .host [0x00, 0x00, 0x00, 0x34, 0x12] = .ok .rdCtrl ∧
  decode .host [0x02, 0x00, 0x00, 0x34, 0x12] = .ok .rdMode ∧
  decode .host [0x04, 0x00, 0x00, 0x34, 0x12] = .ok .rdPreflight ∧
  decode .host [0x06, 0x00, 0x00, 0x34, 0x12] = .ok .rdStatus ∧
  decode .host [0x08, 0x00, 0x00, 0x34, 0x12] = .ok .rdEvents ∧
  decode .host [0x0A, 0x00, 0x00, 0x34, 0x12] = .ok .rdIrqEn ∧
  decode .host [0x0C, 0x00, 0x00, 0x34, 0x12] = .ok .rdSkipCount ∧
  decode .host [0x0E, 0x00, 0x00, 0x34, 0x12] = .ok .rdProbeCount ∧
  decode .host [0x10, 0x00, 0x00, 0x34, 0x12] = .ok .rdLine ∧
  decode .host [0x12, 0x00, 0x00, 0x34, 0x12] = .ok .rdOutRow ∧
  decode .host [0x14, 0x00, 0x00, 0x34, 0x12] = .ok .rdTeleCount ∧
  decode .host [0x16, 0x00, 0x00, 0x34, 0x12] = .ok .rdLastHdrId ∧
  decode .host [0x18, 0x00, 0x00, 0x34, 0x12] = .ok .rdLastHdrCrc ∧
  decode .host [0x1A, 0x00, 0x00, 0x34, 0x12] = .ok .rdBuserrCause ∧
  decode .host [0x1C, 0x00, 0x00, 0x34, 0x12] = .ok .rdBuserrAddr ∧
  decode .host [0x1E, 0x00, 0x00, 0x34, 0x12] = .ok .rdGeomW ∧
  decode .host [0x20, 0x00, 0x00, 0x34, 0x12] = .ok .rdGeomH ∧
  decode .host [0x22, 0x00, 0x00, 0x34, 0x12] = .ok .rdGeomBpp ∧
  decode .host [0x24, 0x00, 0x00, 0x34, 0x12] = .ok .rdGeomPitch ∧
  decode .host [0x26, 0x00, 0x00, 0x34, 0x12] = .ok .rdGeomTotal ∧
  decode .host [0x28, 0x00, 0x00, 0x34, 0x12] = .ok .rdGeomLpb := by
  repeat' apply And.intro
  all_goals rfl

/-- The control writes keep their wdata.
T is written out from 30_encoding.md R150 and spec/opcode_table.json, then wdata 0x1234. -/
theorem test_decode_control_writes :
  decode .host [0x00, 0x00, 0x01, 0x34, 0x12] = .ok (.wrCtrl 0x1234) ∧
  decode .host [0x02, 0x00, 0x01, 0x34, 0x12] = .ok (.wrMode 0x1234) ∧
  decode .host [0x04, 0x00, 0x01, 0x34, 0x12] = .ok (.wrPreflight 0x1234) ∧
  decode .host [0x08, 0x00, 0x01, 0x34, 0x12] = .ok (.wrEvents 0x1234) ∧
  decode .host [0x0A, 0x00, 0x01, 0x34, 0x12] = .ok (.wrIrqEn 0x1234) := by
  repeat' apply And.intro
  all_goals rfl

/-- The writes of read-only registers.
T is written out from 30_encoding.md R150 and spec/opcode_table.json, then wdata 0x1234. -/
theorem test_decode_read_only_writes :
  decode .host [0x06, 0x00, 0x01, 0x34, 0x12] = .ok (.wrStatusRo 0x1234) ∧
  decode .host [0x0C, 0x00, 0x01, 0x34, 0x12] = .ok (.wrSkipCountRo 0x1234) ∧
  decode .host [0x0E, 0x00, 0x01, 0x34, 0x12] = .ok (.wrProbeCountRo 0x1234) ∧
  decode .host [0x10, 0x00, 0x01, 0x34, 0x12] = .ok (.wrLineRo 0x1234) ∧
  decode .host [0x12, 0x00, 0x01, 0x34, 0x12] = .ok (.wrOutRowRo 0x1234) ∧
  decode .host [0x14, 0x00, 0x01, 0x34, 0x12] = .ok (.wrTeleCountRo 0x1234) ∧
  decode .host [0x16, 0x00, 0x01, 0x34, 0x12] = .ok (.wrLastHdrIdRo 0x1234) ∧
  decode .host [0x18, 0x00, 0x01, 0x34, 0x12] = .ok (.wrLastHdrCrcRo 0x1234) ∧
  decode .host [0x1A, 0x00, 0x01, 0x34, 0x12] = .ok (.wrBuserrCauseRo 0x1234) ∧
  decode .host [0x1C, 0x00, 0x01, 0x34, 0x12] = .ok (.wrBuserrAddrRo 0x1234) ∧
  decode .host [0x1E, 0x00, 0x01, 0x34, 0x12] = .ok (.wrGeomWRo 0x1234) ∧
  decode .host [0x20, 0x00, 0x01, 0x34, 0x12] = .ok (.wrGeomHRo 0x1234) ∧
  decode .host [0x22, 0x00, 0x01, 0x34, 0x12] = .ok (.wrGeomBppRo 0x1234) ∧
  decode .host [0x24, 0x00, 0x01, 0x34, 0x12] = .ok (.wrGeomPitchRo 0x1234) ∧
  decode .host [0x26, 0x00, 0x01, 0x34, 0x12] = .ok (.wrGeomTotalRo 0x1234) ∧
  decode .host [0x28, 0x00, 0x01, 0x34, 0x12] = .ok (.wrGeomLpbRo 0x1234) := by
  repeat' apply And.intro
  all_goals rfl

/-- The windows at their first and last word; the write of a decoded telemetry register likewise.
T is written out from 30_encoding.md R150 and spec/opcode_table.json, then wdata 0x1234. -/
theorem test_decode_windows :
  decode .host [0x00, 0x40, 0x00, 0x34, 0x12] = .ok (.rdImg 0x4000) ∧
  decode .host [0x7E, 0x65, 0x00, 0x34, 0x12] = .ok (.rdImg 0x657E) ∧
  decode .host [0x00, 0x40, 0x01, 0x34, 0x12] = .ok (.wrImgRo 0x4000 0x1234) ∧
  decode .host [0x7E, 0x65, 0x01, 0x34, 0x12] = .ok (.wrImgRo 0x657E 0x1234) ∧
  decode .host [0x00, 0x02, 0x00, 0x34, 0x12] = .ok (.rdTraw 0x0200) ∧
  decode .host [0xA2, 0x02, 0x00, 0x34, 0x12] = .ok (.rdTraw 0x02A2) ∧
  decode .host [0x00, 0x02, 0x01, 0x34, 0x12] = .ok (.wrTrawRo 0x0200 0x1234) ∧
  decode .host [0xA2, 0x02, 0x01, 0x34, 0x12] = .ok (.wrTrawRo 0x02A2 0x1234) ∧
  decode .host [0x00, 0x01, 0x01, 0x34, 0x12] = .ok (.wrTfieldRo 0x0100 0x1234) ∧
  decode .host [0x3C, 0x01, 0x01, 0x34, 0x12] = .ok (.wrTfieldRo 0x013C 0x1234) := by
  repeat' apply And.intro
  all_goals rfl

/-- The 31 decoded telemetry registers.
T is written out from 30_encoding.md R150 and spec/opcode_table.json, then wdata 0x1234. -/
theorem test_decode_telemetry_reads :
  decode .host [0x00, 0x01, 0x00, 0x34, 0x12] = .ok .rdTRevMajor ∧
  decode .host [0x02, 0x01, 0x00, 0x34, 0x12] = .ok .rdTRevMinor ∧
  decode .host [0x04, 0x01, 0x00, 0x34, 0x12] = .ok .rdTUptimeLo ∧
  decode .host [0x06, 0x01, 0x00, 0x34, 0x12] = .ok .rdTUptimeHi ∧
  decode .host [0x08, 0x01, 0x00, 0x34, 0x12] = .ok .rdTFlags ∧
  decode .host [0x0A, 0x01, 0x00, 0x34, 0x12] = .ok .rdTSerial0 ∧
  decode .host [0x0C, 0x01, 0x00, 0x34, 0x12] = .ok .rdTSerial1 ∧
  decode .host [0x0E, 0x01, 0x00, 0x34, 0x12] = .ok .rdTSerial2 ∧
  decode .host [0x10, 0x01, 0x00, 0x34, 0x12] = .ok .rdTSerial3 ∧
  decode .host [0x12, 0x01, 0x00, 0x34, 0x12] = .ok .rdTSerial4 ∧
  decode .host [0x14, 0x01, 0x00, 0x34, 0x12] = .ok .rdTSerial5 ∧
  decode .host [0x16, 0x01, 0x00, 0x34, 0x12] = .ok .rdTSerial6 ∧
  decode .host [0x18, 0x01, 0x00, 0x34, 0x12] = .ok .rdTSerial7 ∧
  decode .host [0x1A, 0x01, 0x00, 0x34, 0x12] = .ok .rdTSwrev0 ∧
  decode .host [0x1C, 0x01, 0x00, 0x34, 0x12] = .ok .rdTSwrev1 ∧
  decode .host [0x1E, 0x01, 0x00, 0x34, 0x12] = .ok .rdTSwrev2 ∧
  decode .host [0x20, 0x01, 0x00, 0x34, 0x12] = .ok .rdTSwrev3 ∧
  decode .host [0x22, 0x01, 0x00, 0x34, 0x12] = .ok .rdTFramecntLo ∧
  decode .host [0x24, 0x01, 0x00, 0x34, 0x12] = .ok .rdTFramecntHi ∧
  decode .host [0x26, 0x01, 0x00, 0x34, 0x12] = .ok .rdTFrameMean ∧
  decode .host [0x28, 0x01, 0x00, 0x34, 0x12] = .ok .rdTFpaTemp ∧
  decode .host [0x2A, 0x01, 0x00, 0x34, 0x12] = .ok .rdTFpaTempFfc ∧
  decode .host [0x2C, 0x01, 0x00, 0x34, 0x12] = .ok .rdTHousTemp ∧
  decode .host [0x2E, 0x01, 0x00, 0x34, 0x12] = .ok .rdTHousTempFfc ∧
  decode .host [0x30, 0x01, 0x00, 0x34, 0x12] = .ok .rdTRoiTop ∧
  decode .host [0x32, 0x01, 0x00, 0x34, 0x12] = .ok .rdTRoiLeft ∧
  decode .host [0x34, 0x01, 0x00, 0x34, 0x12] = .ok .rdTRoiBottom ∧
  decode .host [0x36, 0x01, 0x00, 0x34, 0x12] = .ok .rdTRoiRight ∧
  decode .host [0x38, 0x01, 0x00, 0x34, 0x12] = .ok .rdTClipHi ∧
  decode .host [0x3A, 0x01, 0x00, 0x34, 0x12] = .ok .rdTClipLo ∧
  decode .host [0x3C, 0x01, 0x00, 0x34, 0x12] = .ok .rdTLog2Ffc := by
  repeat' apply And.intro
  all_goals rfl

/-- The ends of every unmapped range, and odd addresses, in a window and at the top too.
T is written out from 30_encoding.md R150 and spec/opcode_table.json, then wdata 0x1234. -/
theorem test_decode_bad_accesses :
  decode .host [0x2A, 0x00, 0x00, 0x34, 0x12] = .ok (.accUnmapped (.rd 0x002A)) ∧
  decode .host [0xFE, 0x00, 0x00, 0x34, 0x12] = .ok (.accUnmapped (.rd 0x00FE)) ∧
  decode .host [0x3E, 0x01, 0x00, 0x34, 0x12] = .ok (.accUnmapped (.rd 0x013E)) ∧
  decode .host [0xFE, 0x01, 0x00, 0x34, 0x12] = .ok (.accUnmapped (.rd 0x01FE)) ∧
  decode .host [0xA4, 0x02, 0x00, 0x34, 0x12] = .ok (.accUnmapped (.rd 0x02A4)) ∧
  decode .host [0xFE, 0x3F, 0x00, 0x34, 0x12] = .ok (.accUnmapped (.rd 0x3FFE)) ∧
  decode .host [0x80, 0x65, 0x00, 0x34, 0x12] = .ok (.accUnmapped (.rd 0x6580)) ∧
  decode .host [0xFE, 0xFF, 0x00, 0x34, 0x12] = .ok (.accUnmapped (.rd 0xFFFE)) ∧
  decode .host [0x2A, 0x00, 0x01, 0x34, 0x12] = .ok (.accUnmapped (.wr 0x002A 0x1234)) ∧
  decode .host [0x01, 0x40, 0x00, 0x34, 0x12] = .ok (.accMisaligned (.rd 0x4001)) ∧
  decode .host [0x03, 0x00, 0x01, 0x34, 0x12] = .ok (.accMisaligned (.wr 0x0003 0x1234)) ∧
  decode .host [0xFF, 0xFF, 0x01, 0x34, 0x12] = .ok (.accMisaligned (.wr 0xFFFF 0x1234)) := by
  repeat' apply And.intro
  all_goals rfl

/-- The engine's select vectors, as the table gives them with the bits its masks leave out at 0 and at 1. -/
theorem test_decode_steps :
    decode .engine [0b00001000] = .ok .stepPreflight ∧ decode .engine [0b00001111] = .ok .stepPreflight ∧
    decode .engine [0b00010000] = .ok .stepSync ∧ decode .engine [0b00010011] = .ok .stepSync ∧
    decode .engine [0b00010100] = .ok .stepHeaderSyncing ∧ decode .engine [0b00010111] = .ok .stepHeaderSyncing ∧
    decode .engine [0b00011000] = .ok .stepHeaderStreaming ∧ decode .engine [0b00011101] = .ok .stepHeaderStreaming ∧
    decode .engine [0b00011010] = .ok .stepPayload ∧ decode .engine [0b00011111] = .ok .stepPayload ∧
    decode .engine [0b00100000] = .ok .stepProbe ∧ decode .engine [0b00100110] = .ok .stepProbe ∧
    decode .engine [0b00100001] = .ok .stepExhaust ∧ decode .engine [0b00100111] = .ok .stepExhaust := by
  repeat' apply And.intro
  all_goals rfl

/-- The step rows of the table do not overlap (42_synchronizer.md R260). -/
theorem test_step_rows_disjoint :
    stepRows.Pairwise fun r q => (r.1 ^^^ q.1) &&& (r.2.1 &&& q.2.1) ≠ 0 := by
  decide

/-- What the decoder refuses, by name: IDLE enables no step, the states 5..7 do not occur, reserved bits and wrong
lengths (42_synchronizer.md R260; 10_state.md R36). -/
theorem test_decode_refusals :
    decode .engine [0b00000000] = .error .noStepEnabled ∧ decode .engine [0b00101000] = .error .noSuchState ∧
    decode .engine [0b01001000] = .error .reservedStepBits ∧
    decode .host [0, 0, 0b10, 0, 0] = .error .reservedHostBits ∧ decode .host [0, 0, 0] = .error .wrongLength ∧
    decode (.header resetContext) [0, 0, 0] = .error .wrongLength := by
  repeat' apply And.intro
  all_goals rfl

/-- Headers in wire order, with V40 to V42, V44, V45, V47 and V53 of the vectors (30_encoding.md R141, R147). -/
theorem test_decode_headers :
    let at7 : HeaderContext := { window := false, line := 7, probing := false }
    let probe7 : HeaderContext := { window := false, line := 7, probing := true }
    let open60 : HeaderContext := { window := true, line := 60, probing := true }
    decode (.header at7) [0x00, 0x07, 0xAB, 0xCD] = .ok (.hdrImage 0x0007ABCD) ∧
    decode (.header at7) [0x00, 0x08, 0x00, 0x00] = .ok (.hdrOutOfSync 0x00080000) ∧
    decode (.header at7) [0x00, 0x00, 0x00, 0x00] = .ok (.hdrOutOfSync 0x00000000) ∧
    decode (.header probe7) [0x00, 0x00, 0x00, 0x00] = .ok (.hdrNewframe 0x00000000) ∧
    decode (.header at7) [0xF0, 0x07, 0x00, 0x00] = .ok (.hdrDiscard 0xF0070000) ∧
    decode (.header at7) [0x0F, 0x07, 0x00, 0x00] = .ok (.hdrImage 0x0F070000) ∧
    decode (.header open60) [0x00, 0x25, 0x00, 0x00] = .ok (.hdrTelemetry 0x00250000) ∧
    decode (.header open60) [0x00, 0x00, 0x00, 0x00] = .ok (.hdrTelemetry 0x00000000) := by
  repeat' apply And.intro
  all_goals rfl

end Sys2Proof

namespace Sys2Proof.Machine

-- One declaration at a time: the tests evaluate in the kernel, and many at once would need many threads.
set_option Elab.async false

/-! ## Small states and single steps -/

/-- The next state of an outcome; none for a stop. -/
def nextOf (o : Out) : Option State :=
  match o with
  | .next s => some s
  | .fault _ => none
  | .refused _ => none

/-- One step with a host transaction next. -/
def bus (t : BitVec 17) (d : Word) (s : State) : Option State := nextOf (step { s with inputs := [.host t d] })

/-- A step goes on, and the next state satisfies a property. -/
abbrev after (o : Option State) (p : State → Prop) : Prop := ∃ u ∈ o, p u

/-- One step with the engine's turn next. -/
def turn (s : State) : Option State := nextOf (step { s with inputs := [.engine] })

/-- One step with a header of the stream next. -/
def headerTurn (s : State) : Option State := nextOf (step { s with inputs := [.header] })

/-- The word a transaction is answered OKAY with; none for ERR. -/
def reads (t : BitVec 17) (s : State) : Option Word :=
  match (bus t 0x1234 s).bind State.response with
  | some { resp := .okay, rdata := v } => some v
  | some { resp := .err, rdata := _ } => none
  | none => none

/-- The cause and the address of a transaction's bus error; none where it is answered OKAY, or where ERR comes without
EVENTS.BUSERR or with rdata other than 0. -/
def raises (t : BitVec 17) (d : Word) (s : State) : Option (BitVec 4 × Word) :=
  match bus t d s with
  | some u =>
    if u.response = some { resp := .err, rdata := 0 } ∧ u.events.getLsbD 2 = true then
      some (u.busErrCause, u.busErrAddr)
    else none
  | none => none

/-- Idle after a capture in a mode that ended DONE. -/
def doneState (m : StorageMode) : State :=
  { State.reset with mode := m, preflight := 8, result := .done, frameValid := true, outRow := 15, line := 60 }

/-- Streaming, with no payload owed. -/
def streamingState (m : StorageMode) (p : BitVec 4) (line : BitVec 6) : State :=
  { State.reset with mode := m, preflight := p, st := .streaming, busHeld := true, line := line }

/-- Probing, with some probes made. -/
def probingState (m : StorageMode) (p : BitVec 4) (line : BitVec 6) (probe : BitVec 7) : State :=
  { streamingState m p line with st := .resyncing, probe := probe }

/-- A payload of one byte, 160 times. -/
def flat (v : Byte) : List Byte := List.replicate 160 v

/-- A payload owed and delivered. -/
def owed (x : Pend) (pay : List Byte) (s : State) : State := { s with pend := x, stream := pay }

/-- Idle with an allocated telemetry buffer: a header, then payload words, then zeros. -/
def telState (b0 : Byte) (words : List Word) : State :=
  { State.reset with
    tbufAlloc := true
    tel := cellsFrom 0 ([b0, 0x3C, 0x11, 0x11] ++
      words.flatMap (fun w => [w.extractLsb' 8 8, w.extractLsb' 0 8]) ++
      List.replicate (160 - 2 * words.length) 0) }

/-- Just started, the camera booted; a legal state of the block. -/
def startedState : State := { State.reset with preflight := 8, st := .preflight, inputs := [.engine] }

/-- In the middle of a legal capture in MODE 0: line 0 of 60 owed and delivered. -/
def imageState : State := { owed .img (flat 1) (streamingState .m80x60x16 8 0) with inputs := [.engine] }

/-! ## Host transactions -/

/-- V1, and the reset values of section 2.9 of the vectors. -/
theorem test_reset_reads :
    [0x00000, 0x00002, 0x00004, 0x00006, 0x00008, 0x0000A, 0x0000C, 0x0000E, 0x00010, 0x00012, 0x00014, 0x00016,
      0x00018, 0x0001A, 0x0001C, 0x0001E, 0x00020, 0x00022, 0x00024, 0x00026, 0x00028].map
        (fun t => reads t State.reset) =
    [0, 0, 0, 0, 0, 0, 0, 0, 0, 0, 0, 0, 0, 0, 0, 0x0050, 0x003C, 0x0002, 0x00A0, 0x2580, 0x0001].map some ∧
    raises 0x00200 0 State.reset = some (5, 0x0200) ∧ irq State.reset = false := by
  decide

/-- Every control read of a state whose registers all differ, with V17 to V19 and W1's MODE 4. -/
theorem test_control_reads :
    let s : State := { doneState .m20x15x16 with
      preflight := 0xB, events := 5, irqEn := 3, skip := 4, probe := 120, line := 59, outRow := 14, tele := 3,
      hdr := 0xFF001234, busErrCause := 6, busErrAddr := 0x42C8 }
    [0x00000, 0x00002, 0x00004, 0x00006, 0x00008, 0x0000A, 0x0000C, 0x0000E, 0x00010, 0x00012, 0x00014, 0x00016,
      0x00018, 0x0001A, 0x0001C, 0x0001E, 0x00020, 0x00022, 0x00024, 0x00026, 0x00028].map (fun t => reads t s) =
    [0x0000, 0x0004, 0x000B, 0x0090, 0x0005, 0x0003, 0x0004, 0x0078, 0x003B, 0x000E, 0x0003, 0xFF00,
      0x1234, 0x0006, 0x42C8, 0x0014, 0x000F, 0x0002, 0x0030, 0x02C8, 0x0004].map some := by
  decide

/-- STATUS of R207's examples: telemetry ready; the sentinel; a capture waiting in SYNCING after RESULT 2 (P5). -/
theorem test_status :
    reads 0x00006 { telState 0x00 [] with result := .done, frameValid := true } = some 0x0390 ∧
    reads 0x00006 { telState 0x0F [] with result := .done, frameValid := true } = some 0x0190 ∧
    reads 0x00006 { State.reset with st := .syncing, result := .notBooted } = some 0x002A := by
  decide

/-- V2, V3 and V4: START 0, START while idle (STATUS 0x0019), START while busy. -/
theorem test_start :
    (bus 0x10000 0xFFFE (doneState .m80x60x16)).map (fun u => (u.st, u.frameValid, u.line)) =
      some (.idle, true, 60) ∧
    ((bus 0x10000 0x0001 { doneState .m80x60x16 with hdr := 7, probe := 3 }).map
      (fun u => (statusWord u, u.line, u.outRow, u.probe, u.hdr))) = some (0x0019, 0, 0, 0, 7) ∧
    ((bus 0x10000 0x0001 (streamingState .m80x60x16 8 9)).map (fun u => (u.st, u.events, u.line))) =
      some (.streaming, 0b010, 9) := by
  decide

/-- V5, V6, V7, V10 and V11: writes of MODE. -/
theorem test_write_mode :
    (bus 0x10002 0x000D State.reset).map (fun u => u.mode) = some .m20x15x8 ∧
    raises 0x10002 0x0006 State.reset = some (8, 0x0002) ∧
    raises 0x10002 0x0007 (streamingState .m80x60x16 8 0) = some (4, 0x0002) ∧
    (bus 0x10002 0x0004 (doneState .m20x15x16)).map statusWord = some 0x0090 ∧
    (bus 0x10002 0x0005 (doneState .m20x15x16)).map statusWord = some 0x0010 := by
  decide

/-- V8 and V9: writes of PREFLIGHT. -/
theorem test_write_preflight :
    raises 0x10004 0x0008 (streamingState .m80x60x16 8 0) = some (4, 0x0004) ∧
    (bus 0x10004 0xFFFF State.reset).bind (reads 0x00004) = some 0x000F := by
  decide

/-- V12, V13, V14 and V38: EVENTS clears by ones, IRQ_EN takes three bits, the cause stays. -/
theorem test_write_events :
    let s : State := { State.reset with events := 7, busErrCause := 1, irqEn := 1 }
    (bus 0x10008 0x0005 s).bind (reads 0x00008) = some 0x0002 ∧
    (bus 0x10008 0x0000 s).bind (reads 0x00008) = some 0x0007 ∧
    (bus 0x10008 0x0004 s).bind (reads 0x0001A) = some 0x0001 ∧
    (bus 0x1000A 0xFFFF s).bind (reads 0x0000A) = some 0x0007 ∧
    irq s = true ∧ (bus 0x10008 0x0001 s).map irq = some false := by
  decide

/-- V140 to V143: the interrupt output. -/
theorem test_irq :
    [(1, 1), (1, 6), (6, 4), (0, 7)].map (fun (e, n) => irq { State.reset with events := e, irqEn := n }) =
      [true, false, true, false] := by
  decide

/-- V15, V16, V20 to V27: the accesses that always raise, idle and busy. -/
theorem test_bus_errors :
    let b := streamingState .m80x60x16 8 0
    raises 0x10006 0x0000 State.reset = some (3, 0x0006) ∧ raises 0x10026 0x0001 b = some (3, 0x0026) ∧
    raises 0x00003 0 State.reset = some (1, 0x0003) ∧ raises 0x10003 0 b = some (1, 0x0003) ∧
    raises 0x04001 0 State.reset = some (1, 0x4001) ∧ raises 0x0002A 0 b = some (2, 0x002A) ∧
    raises 0x1002A 0 b = some (2, 0x002A) ∧ raises 0x0FFFE 0 State.reset = some (2, 0xFFFE) ∧
    raises 0x14000 0 b = some (3, 0x4000) ∧ raises 0x10200 0 State.reset = some (3, 0x0200) ∧
    raises 0x10100 0 State.reset = some (3, 0x0100) := by
  decide

/-- V28 to V32: IMG reads at the ends of the window's range; MODE 4's pixel of R221's example. -/
theorem test_img_reads :
    let s : State := { doneState .m20x15x16 with img := [(0, 0x00), (1, 0x06), (710, 0x00), (711, 0xE6)] }
    raises 0x0657E 0 (streamingState .m20x15x8 8 0) = some (5, 0x657E) ∧
    raises 0x0657E 0 (doneState .m20x15x8) = some (6, 0x657E) ∧
    raises 0x041D4 0 (doneState .m20x15x8) = some (6, 0x41D4) ∧
    raises 0x042C8 0 s = some (6, 0x42C8) ∧ reads 0x04000 s = some 0x0006 ∧ reads 0x042C6 s = some 0x00E6 ∧
    reads 0x0657E { doneState .m80x60x16 with img := [(9598, 0xAB), (9599, 0xCD)] } = some 0xABCD := by
  decide

/-- V33 to V35: TRAW and a decoded register while busy, not allocated, and with the sentinel; TRAW's ends. -/
theorem test_traw_reads :
    let b := { telState 0x00 [] with st := .streaming }
    raises 0x00200 0 b = some (5, 0x0200) ∧ raises 0x00100 0 b = some (5, 0x0100) ∧
    raises 0x00200 0 State.reset = some (5, 0x0200) ∧ raises 0x00100 0 State.reset = some (5, 0x0100) ∧
    raises 0x00100 0 (telState 0x0F []) = some (7, 0x0100) ∧ raises 0x0013C 0 (telState 0x0F []) = some (7, 0x013C) ∧
    reads 0x00200 (telState 0x0F []) = some 0x0F3C ∧ reads 0x00204 (telState 0 [0x0E03]) = some 0x0E03 ∧
    reads 0x002A2 (telState 0 []) = some 0 := by
  decide

/-! ## Decoded telemetry under the suggested layout of 45_telemetry_decoder.md R364 (general knowledge, not the
block's: tests only) -/

/-- The suggested layout; a position counts from buffer word 2. -/
def suggestedLayout : TeleLayout where
  rev := 0
  revMajorHi := true
  order32 := .lswFirst
  uptime := 1
  status := 3
  ffcDesired := 3
  ffcState := 4
  agc := 12
  shutdown := 20
  serial := 5
  swrev := 13
  frameCnt := 20
  mean := 22
  fpa := 24
  hous := 26
  fpaFfc := 29
  housFfc := 32
  roi := 34
  clipHi := 38
  clipLo := 39
  log2Ffc := 74

/-- The payload of program P2's telemetry, with serial words 1 to 8. -/
def p2Words : List Word :=
  [0x0E03, 0x5678, 0x1234, 0x1028, 0x0010, 1, 2, 3, 4, 5, 6, 7, 8, 0, 0, 0, 0, 0, 0, 0, 0x0007, 0x0000, 0x1F40, 0,
    0x7530, 0, 0x7418]

/-- V120 to V123, V129, V130 and P2's temperatures. -/
theorem test_telemetry_words :
    let s := telState 0 p2Words
    let l := suggestedLayout
    fieldRevMajor l s = 0x000E ∧ fieldRevMinor l s = 0x0003 ∧
    fieldRevMajor { l with revMajorHi := false } s = 0x0003 ∧
    fieldRevMinor { l with revMajorHi := false } s = 0x000E ∧
    fieldUptime l s = 0x12345678 ∧ fieldUptime { l with order32 := .mswFirst } s = 0x56781234 ∧
    (List.range 8).map (fieldSerial l s) = [1, 2, 3, 4, 5, 6, 7, 8] ∧
    fieldFrameCnt l s = 7 ∧ fieldWord s l.mean = 0x1F40 ∧ fieldWord s l.fpa = 0x7530 ∧
    fieldWord s l.hous = 0x7418 ∧ fieldWord s l.log2Ffc = 0 := by
  decide

/-- V124 to V128: T_FLAGS. -/
theorem test_telemetry_flags :
    [(0xFFFF, 0xFFFF), (0x0030, 0), (0x1000, 0), (0, 0x0010), (0x1028, 0x0010)].map
      (fun (a, b) => fieldFlags suggestedLayout (telState 0 [0, 0, 0, a, b])) =
    [0x001F, 0x0006, 0x0008, 0x0010, 0x001D] := by
  decide

/-- The highest legal places of the fields reach payload word 79, buffer word 81 (45_telemetry_decoder.md R364). -/
theorem test_telemetry_last_word :
    let s := telState 0 (List.replicate 79 0 ++ [0xBEEF])
    fieldWord s (79 : Fin 80) = 0xBEEF ∧
    fieldSerial { suggestedLayout with serial := 72 } s 7 = 0xBEEF ∧
    fieldSwrev { suggestedLayout with swrev := 76 } s 3 = 0xBEEF ∧
    fieldRoi { suggestedLayout with roi := 76 } s 3 = 0xBEEF ∧
    highHalf (fieldFrameCnt { suggestedLayout with frameCnt := 78 } s) = 0xBEEF := by
  decide

/-! ## Geometry and the downsampler's arithmetic -/

/-- The table of 40_geometry.md R184 (W1): width, height, bytes per pixel, pitch, total, lines per band. -/
theorem test_geometry :
    [StorageMode.m80x60x16, .m80x60x8, .m40x30x16, .m40x30x8, .m20x15x16, .m20x15x8].map
      (fun m => [width m, height m, bpp m, pitch m, total m, lpb m]) =
    [[80, 60, 2, 160, 9600, 1], [80, 60, 1, 80, 4800, 1], [40, 30, 2, 80, 2400, 2], [40, 30, 1, 48, 1432, 2],
      [20, 15, 2, 48, 712, 4], [20, 15, 1, 32, 468, 4]] := by
  decide

/-- V90 to V112: the pixel of a block sum. -/
theorem test_pixels :
    pixelOf 2 2 false 18640 = 4660 ∧ pixelOf 2 2 false 10 = 2 ∧ pixelOf 2 2 false 65536 = 16383 ∧
    pixelOf 2 2 true 18640 = 4660 ∧ pixelOf 1 2 false 16320 = 63 ∧ pixelOf 1 2 false 65280 = 255 ∧
    pixelOf 1 2 false 65532 = 255 ∧ pixelOf 1 2 false 65536 = 255 ∧ pixelOf 1 2 false 255 = 0 ∧
    pixelOf 1 2 true 1200 = 255 ∧ pixelOf 2 4 false 1048560 = 16383 ∧ pixelOf 2 4 false 983025 = 16383 ∧
    pixelOf 2 4 false 15 = 0 ∧ pixelOf 2 4 false 262128 = 16383 ∧ pixelOf 1 4 false 261120 = 255 ∧
    pixelOf 1 4 false 1008 = 0 ∧ pixelOf 1 4 true 3825 = 239 ∧ pixelOf 1 1 false 16383 = 255 ∧
    pixelOf 1 1 false 65535 = 255 ∧ pixelOf 1 1 false 255 = 3 ∧ pixelOf 1 1 true 128 = 128 ∧
    pixelOf 1 1 true 256 = 255 ∧ pixelBytes 2 16383 = [0x3F, 0xFF] := by
  decide

/-! ## Classification -/

/-- V40 to V55 of section 2.3 of the vectors: is_tele, is_image, is_newframe. -/
theorem test_classes :
    let k := fun (p : BitVec 4) (line : BitVec 6) (tele : BitVec 2) (h : BitVec 32) =>
      let s := { streamingState .m80x60x16 p line with tele := tele }
      (isTele h s, isImage h s, isNewframe h s)
    [k 0x8 7 0 0x00070000, k 0x8 7 0 0x00080000, k 0x8 7 0 0x00000000, k 0x8 7 0 0xFF000000,
      k 0x8 7 0 0xF0070000, k 0x8 7 0 0x0F070000, k 0x8 7 0 0x01070000, k 0xA 0 0 0x00250000,
      k 0xA 0 2 0xF0000000, k 0xA 0 3 0x00000000, k 0xA 5 3 0x00000000, k 0xE 59 0 0x003B0000,
      k 0xE 60 0 0x003C0000, k 0xE 60 0 0x00000000, k 0xE 60 3 0x00000000, k 0x8 60 0 0x003C0000] =
    [(false, true, false), (false, false, false), (false, false, true), (false, false, false),
      (false, false, false), (false, true, false), (false, true, false), (true, false, false),
      (false, false, false), (false, true, false), (false, false, true), (false, true, false),
      (true, false, false), (true, false, false), (false, false, true), (false, false, false)] := by
  decide

/-! ## Engine steps -/

/-- V70, V71 and V72, and W2's STATUS 0x0020: the PREFLIGHT step. -/
theorem test_step_preflight :
    let s : State := { State.reset with st := .preflight }
    after (turn s) (fun u =>
      statusWord u = 0x0020 ∧ u.events = 1 ∧ u.busHeld = false ∧ u.tel = []) ∧
    after (turn { s with preflight := 0xA }) (fun u =>
      u.st = .syncing ∧ u.tbufAlloc = true ∧ u.busHeld = true ∧ readByte .tel u 0 = 0x0F ∧ readByte .tel u 1 = 0 ∧
      readByte .tel u 163 = 0) ∧
    after (turn { s with preflight := 0x8, tbufAlloc := true }) (fun u =>
      u.st = .syncing ∧ u.tbufAlloc = false) ∧
    after (turn { telState 0x12 [0x3456] with st := .preflight, preflight := 0xA }) (fun u =>
      u.tbufAlloc = true ∧ readByte .tel u 0 = 0x12 ∧ readByte .tel u 4 = 0x34) := by
  repeat' apply And.intro
  all_goals decide +kernel

/-- The SYNC step waits for the pulse report, then sets sync_done and reads nothing (42_synchronizer.md R265). -/
theorem test_step_sync :
    let s : State := { State.reset with st := .syncing, busHeld := true, preflight := 8, stream := [1, 2, 3, 4] }
    (turn s).map (fun u => u.syncDone) = some false ∧
    after (turn { s with pulseDone := true }) (fun u =>
      u.st = .syncing ∧ u.syncDone = true ∧ u.pulseDone = false ∧ u.stream = [1, 2, 3, 4]) := by
  repeat' apply And.intro
  all_goals decide +kernel

/-- The HEADER step of 42_synchronizer.md R270's example, from STREAMING and from SYNCING, and V67. -/
theorem test_step_header :
    let s := streamingState .m80x60x16 8 7
    let y : State := { State.reset with st := .syncing, syncDone := true, busHeld := true, preflight := 0xA }
    after (turn { s with stream := [0x00, 0x07, 0xAB, 0xCD, 0x55] }) (fun u =>
      u.st = .streaming ∧ u.pend = .img ∧ headerId u.hdr = 0x0007 ∧ headerCrc u.hdr = 0xABCD ∧ u.stream = [0x55]) ∧
    after (turn { s with probe := 9, stream := [0x00, 0x08, 0x00, 0x00] }) (fun u =>
      u.st = .resyncing ∧ u.pend = .none ∧ u.probe = 0 ∧ u.line = 7) ∧
    after (turn { y with stream := [0x00, 0x25, 0x99, 0x99] }) (fun u =>
      u.st = .streaming ∧ u.pend = .telStore ∧ u.syncDone = false) ∧
    after (turn { y with stream := [0xFF, 0x00, 0x00, 0x00] }) (fun u =>
      u.st = .resyncing ∧ u.syncDone = false) ∧
    after (turn { s with stream := [0x00, 0x07, 0xAB] }) (fun u =>
      u.pend = .none ∧ u.stream = [0x00, 0x07, 0xAB]) := by
  repeat' apply And.intro
  all_goals decide +kernel

/-- V81 and V68: the last line of MODE 0 goes to IMG[9440..9599] and ends the capture. -/
theorem test_step_payload_direct :
    after (turn (owed .img (List.replicate 159 0x11 ++ [0x22])
      { streamingState .m80x60x16 8 59 with outRow := 59, img := [(9439, 0x77)] })) (fun u =>
      u.line = 60 ∧ u.outRow = 60 ∧ statusWord u = 0x0090 ∧ u.events = 1 ∧ u.busHeld = false ∧
      [9439, 9440, 9598, 9599].map (readByte .img u) = [0x77, 0x11, 0x11, 0x22]) := by
  decide +kernel

/-- V82: line 6 of MODE 2 goes with its header to slot 0. -/
theorem test_step_payload_scratch :
    after (turn (owed .img (flat 0xAA) { streamingState .m40x30x16 8 6 with outRow := 3, hdr := 0x0006BEEF })) (fun u =>
      u.line = 7 ∧ u.outRow = 3 ∧ u.pend = .none ∧
      [0, 1, 2, 3, 4, 163].map (readByte .scr u) = [0x00, 0x06, 0xBE, 0xEF, 0xAA, 0xAA] ∧ u.img = [] ∧
      u.scr.length = 164) := by
  decide +kernel

/-- V86 with V110's sample 0x00FF: line 12 of MODE 1 makes row 12, IMG[960..1039], of pixels 3. -/
theorem test_step_payload_band :
    after (turn (owed .img ((List.range 80).flatMap fun _ => [0x00, 0xFF])
      { streamingState .m80x60x8 8 12 with outRow := 12 })) (fun u =>
      u.line = 13 ∧ u.outRow = 13 ∧ [960, 1039].map (readByte .img u) = [3, 3] ∧ u.img.length = 80) := by
  decide +kernel

/-- V87, V88, V69 and V89: telemetry payloads, and the footer's end. -/
theorem test_step_payload_telemetry :
    after (turn (owed .telStore (flat 0x5A) { streamingState .m80x60x16 0xA 0 with hdr := 0x0F3C1111 })) (fun u =>
      u.tele = 1 ∧ [0, 1, 2, 3, 4, 163].map (readByte .tel u) = [0x0F, 0x3C, 0x11, 0x11, 0x5A, 0x5A] ∧
      u.tel.length = 164 ∧ u.pend = .none) ∧
    after (turn (owed .telDrop (flat 0x5A) { streamingState .m80x60x16 0xE 60 with outRow := 60, tele := 2 })) (fun u =>
      u.tele = 3 ∧ u.tel = [] ∧ u.st = .idle ∧ u.result = .done ∧ u.frameValid = true) := by
  repeat' apply And.intro
  all_goals decide +kernel

/-- 42_synchronizer.md R281's example's match as the 120th probe (W7), a discard that is no match, and the fifth and
the first new frame (R284, R285). -/
theorem test_step_probe :
    after (turn { probingState .m80x60x16 8 10 119 with stream := [0x00, 0x0A, 0, 0] }) (fun u =>
      u.st = .streaming ∧ u.pend = .img ∧ u.probe = 120 ∧ u.line = 10) ∧
    after (turn { probingState .m80x60x16 8 10 0 with stream := [0xFF, 0x00, 0, 0] }) (fun u =>
      u.st = .resyncing ∧ u.pend = .none ∧ u.probe = 1 ∧ u.skip = 0) ∧
    after (turn { probingState .m40x30x16 8 1 0 with skip := 4, stream := [0x00, 0x00, 0, 0] }) (fun u =>
      u.st = .idle ∧ u.result = .frameSkipLimit ∧ u.skip = 5 ∧ u.line = 1 ∧ u.frameValid = false) ∧
    after (turn { probingState .m20x15x8 0xB 20 0 with outRow := 5, tele := 3, stream := [0x00, 0x00, 0x0B, 0x0B] }) (fun u =>
      u.st = .streaming ∧ u.pend = .telStore ∧ u.skip = 1 ∧ u.line = 0 ∧ u.outRow = 0 ∧ u.tele = 0) := by
  repeat' apply And.intro
  all_goals decide +kernel

/-- W6: EXHAUST after the 120th probe, with P4's STATUS 0x0040. -/
theorem test_step_exhaust :
    after (turn (probingState .m80x60x16 8 1 120)) (fun u =>
      statusWord u = 0x0040 ∧ u.probe = 120 ∧ u.line = 1 ∧ u.events = 1) := by
  decide +kernel

/-- The header rows from the stream: a discard and a mismatch while streaming, telemetry, an image line, a new frame
and a probe without a match. -/
theorem test_header_rows :
    let s := streamingState .m80x60x16 8 7
    after (headerTurn { s with stream := [0xF0, 0x07, 0, 0] }) (fun u =>
      u.st = .resyncing ∧ u.hdr = 0xF0070000) ∧
    after (headerTurn { s with stream := [0x00, 0x08, 0, 0] }) (fun u =>
      u.st = .resyncing ∧ u.hdr = 0x00080000) ∧
    after (headerTurn { s with stream := [0x00, 0x07, 0, 0] }) (fun u =>
      u.st = .streaming ∧ u.pend = .img) ∧
    after (headerTurn { streamingState .m80x60x16 0xE 60 with tele := 1, stream := [0, 0, 0, 0] }) (fun u =>
      u.st = .streaming ∧ u.pend = .telDrop) ∧
    after (headerTurn { probingState .m80x60x16 8 7 3 with stream := [0, 0, 0, 0] }) (fun u =>
      u.st = .streaming ∧ u.pend = .img ∧ u.skip = 1 ∧ u.line = 0 ∧ u.probe = 4) ∧
    after (headerTurn { probingState .m80x60x16 8 7 3 with stream := [0, 8, 0, 0] }) (fun u =>
      u.st = .resyncing ∧ u.pend = .none ∧ u.probe = 4) := by
  repeat' apply And.intro
  all_goals decide +kernel

/-- A table word placed at reset runs as the first instruction: a host read, a write of a register, a discard header,
and a payload step over a stream of zeros (log 13, log 14). -/
theorem test_fetch_words :
    (nextOf (step (State.reset.withFetchWord 24 0x0001E))).map State.response =
      some (some { resp := .okay, rdata := 0x0050 }) ∧
    (nextOf (step (State.reset.withFetchWord 24 0x10006))).map (fun u => u.busErrCause) = some 3 ∧
    after (nextOf (step (State.reset.withFetchWord 32 0xF0070000))) (fun u =>
      u.st = .resyncing ∧ u.hdr = 0xF0070000) ∧
    after (nextOf (step (State.reset.withFetchWord 8 0b011010))) (fun u =>
      u.st = .streaming ∧ u.line = 1 ∧ u.outRow = 1 ∧ u.pend = .none) ∧
    after (nextOf (step (State.reset.withFetchWord 8 0b001000))) (fun u =>
      u.st = .idle ∧ u.result = .notBooted) := by
  repeat' apply And.intro
  all_goals decide +kernel

/-- The block reset in the middle of a capture (70_reset_and_hazards.md R440). -/
theorem test_block_reset :
    after (nextOf (step { imageState with inputs := [.reset], events := 2, result := .done })) (fun u =>
      u.st = .idle ∧ u.events = 0 ∧ u.result = .none ∧ u.busHeld = false ∧ u.pend = .none ∧ u.stream = [] ∧
      u.epoch = 1) := by
  decide +kernel

/-! ## Witnesses: states and operands that meet the hypotheses of the statements -/

/-- A step that goes on has a next state. -/
theorem next_of {o : Out} (h : (nextOf o).isSome = true) : ∃ t, o = .next t := by
  cases o with
  | next t => exact ⟨t, rfl⟩
  | fault r => cases h
  | refused r => cases h

/-- As `next_of`, with a property of the next state. -/
theorem next_after {o : Out} {p : State → Prop} (h : after (nextOf o) p) : ∃ t, o = .next t ∧ p t := by
  obtain ⟨u, hu, hp⟩ := h
  cases o with
  | next t => cases hu; exact ⟨_, rfl, hp⟩
  | fault r => cases hu
  | refused r => cases hu

/-- ResetReads: the ends of the IMG window. -/
theorem witness_reset_reads :
    ∀ a ∈ [(0x4000 : Word), 0x657E], a.toNat % 2 = 0 ∧ 0x4000 ≤ a.toNat ∧ a.toNat ≤ 0x657E := by
  simp

theorem inv_started : Inv startedState := by
  constructor <;> decide +kernel

theorem inv_image : Inv imageState := by
  constructor <;> decide +kernel

/-- StepKeepsInv and InvStepGoesOn: a booted capture's first step, and a payload in the middle of one. -/
theorem witness_step_keeps_inv :
    (Inv startedState ∧ ∃ t, step startedState = .next t) ∧ Inv imageState ∧ ∃ t, step imageState = .next t :=
  ⟨⟨inv_started, next_of (by decide +kernel)⟩, inv_image, next_of (by decide +kernel)⟩

/-- StepRunsDecoded: a host transaction, and a header that stands next in the stream. -/
theorem witness_step_runs_decoded :
    let s : State := { State.reset with inputs := [.host 0x10002 4, .engine] }
    let u : State := { streamingState .m80x60x16 8 7 with stream := [0x00, 0x07, 0x12, 0x34, 0x56] }
    s.inputs = .host 0x10002 4 :: [.engine] ∧
    fetchBytes (.host 0x10002 4) s = some (.host, [0x02, 0x00, 0x01, 0x04, 0x00]) ∧
    decode .host [0x02, 0x00, 0x01, 0x04, 0x00] = .ok (.wrMode 4) ∧
    u.stream = headerBytes 0x00071234 ++ [0x56] :=
  ⟨rfl, rfl, rfl, rfl⟩

/-- EnvironmentMoves: a state for each of its clauses. -/
theorem witness_environment_moves :
    let s := streamingState .m80x60x16 8 7
    let y : State := { State.reset with st := .syncing, inputs := [.pulseDone] }
    ({ s with inputs := [.reset] } : State).inputs = .reset :: [] ∧
    ({ s with inputs := [.stream [1, 2]] } : State).inputs = .stream [1, 2] :: [] ∧
    (y.inputs = .pulseDone :: [] ∧ y.st = .syncing ∧ y.syncDone = false) ∧
    (({ s with inputs := [.pulseDone] } : State).inputs = .pulseDone :: [] ∧ s.st ≠ .syncing) ∧
    (({ State.reset with inputs := [.engine] } : State).inputs = .engine :: [] ∧ State.reset.st = .idle) ∧
    State.reset.inputs = [] := by
  decide +kernel

/-- DecodeEncode: a well-formed instruction of each port. -/
theorem witness_decode_encode :
    wellFormed resetContext (.hdrImage 0x0F00BEEF) = true ∧ wellFormed resetContext .stepProbe = true ∧
    wellFormed resetContext (.wrImgRo 0x657E 0xFFFF) = true ∧ wellFormed resetContext (.rdTraw 0x0200) = true ∧
    wellFormed resetContext (.accUnmapped (.rd 0xFFFE)) = true ∧
    wellFormed resetContext (.accMisaligned (.wr 0xFFFF 1)) = true := by
  decide +kernel

/-- CtrlWrite: START 0, START while idle, START while a capture runs. -/
theorem witness_ctrl_write :
    (0xFFFE : Word).getLsbD 0 = false ∧ (0x0001 : Word).getLsbD 0 = true ∧ State.reset.st = .idle ∧
    (streamingState .m80x60x16 8 7).st ≠ .idle := by
  decide +kernel

/-- ConfigurationWrites: every legal mode, the two illegal values, idle and busy. -/
theorem witness_configuration_writes :
    (∀ p ∈ [((0x0000 : Word), StorageMode.m80x60x16), (1, .m80x60x8), (2, .m40x30x16), (3, .m40x30x8),
      (4, .m20x15x16), (0xFFFD, .m20x15x8)], p.1.extractLsb' 0 3 = modeCode p.2) ∧
    (∀ d ∈ [(6 : Word), 7], 5 < d.toNat % 8) ∧ State.reset.st = .idle ∧
    (streamingState .m80x60x16 8 7).st ≠ .idle := by
  refine ⟨by simp [modeCode], by simp, rfl, by decide⟩

/-- ReadOnlyWrites: the ends of the three ranges. -/
theorem witness_read_only_writes :
    (∀ a ∈ [(0x4000 : Word), 0x657E], a.toNat % 2 = 0 ∧ 0x4000 ≤ a.toNat ∧ a.toNat ≤ 0x657E) ∧
    (∀ a ∈ [(0x0200 : Word), 0x02A2], a.toNat % 2 = 0 ∧ 0x0200 ≤ a.toNat ∧ a.toNat ≤ 0x02A2) ∧
    ∀ a ∈ [(0x0100 : Word), 0x013C], a.toNat % 2 = 0 ∧ 0x0100 ≤ a.toNat ∧ a.toNat ≤ 0x013C := by
  simp

/-- BadAddresses: odd addresses, and the ends of the four unmapped ranges. -/
theorem witness_bad_addresses :
    (∀ a ∈ [(0x0001 : Word), 0x4001, 0xFFFF], a.toNat % 2 = 1) ∧
    ∀ a ∈ [(0x002A : Word), 0x00FE, 0x013E, 0x01FE, 0x02A4, 0x3FFE, 0x6580, 0xFFFE], a.toNat % 2 = 0 ∧
      (0x002A ≤ a.toNat ∧ a.toNat ≤ 0x00FE ∨ 0x013E ≤ a.toNat ∧ a.toNat ≤ 0x01FE ∨
        0x02A4 ≤ a.toNat ∧ a.toNat ≤ 0x3FFE ∨ 0x6580 ≤ a.toNat) := by
  simp

/-- ImgRead: the first word, MODE 5's last word and the one behind it, and a busy block. -/
theorem witness_img_read :
    let s := doneState .m20x15x8
    (∀ a ∈ [(0x4000 : Word), 0x41D2, 0x41D4, 0x657E], a.toNat % 2 = 0 ∧ 0x4000 ≤ a.toNat ∧ a.toNat ≤ 0x657E) ∧
    (streamingState .m80x60x16 8 7).st ≠ .idle ∧ s.st = .idle ∧
    (∀ a ∈ [(0x41D4 : Word), 0x657E], total s.mode ≤ a.toNat - 0x4000 + 1) ∧
    ∀ a ∈ [(0x4000 : Word), 0x41D2], a.toNat - 0x4000 + 1 < total s.mode := by
  refine ⟨by simp, by decide, rfl, by simp [total, doneState, height, width, bpp, pitch],
    by simp [total, doneState, height, width, bpp, pitch]⟩

/-- TrawRead and TelemetryReadErrors: both ends of the window; busy, not allocated, allocated with the sentinel. -/
theorem witness_traw_read :
    (∀ a ∈ [(0x0200 : Word), 0x02A2], a.toNat % 2 = 0 ∧ 0x0200 ≤ a.toNat ∧ a.toNat ≤ 0x02A2) ∧
    (streamingState .m80x60x16 8 7).st ≠ .idle ∧ (State.reset.st = .idle ∧ State.reset.tbufAlloc = false) ∧
    (telState 0x0F []).st = .idle ∧ (telState 0x0F []).tbufAlloc = true ∧ readByte .tel (telState 0x0F []) 0 = 0x0F ∧
    (0x013C, Instr.rdTLog2Ffc) ∈ teleRows := by
  refine ⟨by simp, by decide, by decide, by decide, by decide, by decide +kernel, by decide +kernel⟩

/-- RevisionAndSerialReads, DoubleWordReads and WordFieldReads. -/
theorem witness_telemetry_reads :
    (telState 0x00 p2Words).st = .idle ∧ (telState 0x00 p2Words).tbufAlloc = true ∧
    readByte .tel (telState 0x00 p2Words) 0 ≠ 0x0F := by
  decide +kernel

/-- FieldsIgnoreHeaderWords: two buffers that differ in the header alone; both reads answer. -/
theorem witness_fields_ignore_header_words :
    let s := telState 0x00 p2Words
    let t : State := { s with tel := (telState 0x10 p2Words).tel }
    t = { s with tel := t.tel } ∧ (∀ a, 4 ≤ a → a < 164 → readByte .tel t a = readByte .tel s a) ∧
    readByte .tel s 0 ≠ 0x0F ∧ readByte .tel t 0 ≠ 0x0F ∧ (0x0100, Instr.rdTRevMajor) ∈ teleRows ∧
    (∃ u, exec .rdTRevMajor s = .next u) ∧ ∃ v, exec .rdTRevMajor t = .next v := by
  intro s t
  have same : ∀ a, a < 164 → 4 ≤ a → readByte .tel t a = readByte .tel s a := by decide +kernel
  exact ⟨rfl, fun a h k => same a k h, by decide +kernel, by decide +kernel, by decide +kernel,
    next_of (by decide +kernel), next_of (by decide +kernel)⟩

/-- NotBooted, PreflightBooted (allocate, free, keep) and SyncStep. -/
theorem witness_preflight :
    let s : State := { State.reset with st := .preflight }
    let y : State := { State.reset with st := .syncing, pulseDone := true }
    (s.st = .preflight ∧ s.preflight.getLsbD 3 = false) ∧
    (0xA : BitVec 4).getLsbD 3 = true ∧ (0xA : BitVec 4).getLsbD 1 = true ∧ s.tbufAlloc = false ∧
    (0x8 : BitVec 4).getLsbD 3 = true ∧ (0x8 : BitVec 4).getLsbD 1 = false ∧
    ({ s with preflight := 0xA, tbufAlloc := true } : State).tbufAlloc = true ∧
    y.st = .syncing ∧ y.syncDone = false ∧ y.pulseDone = true := by
  decide +kernel

/-- HeaderStep, CrcNeverMatters and HeaderRowsAgree: a header that stands next, SYNCING and STREAMING; two headers
that agree but in the CRC and in bits [27:24]. -/
theorem witness_header_step :
    let y : State := { State.reset with st := .syncing, syncDone := true, stream := headerBytes 0x0007AAAA ++ [9] }
    let s : State := { streamingState .m80x60x16 8 7 with stream := headerBytes 0x0007AAAA ++ [9] }
    (y.st = .syncing ∧ y.syncDone = true) ∧ (s.st = .streaming ∧ s.pend = .none) ∧
    (0x0007AAAA : BitVec 32).extractLsb' 28 4 = (0x0F075555 : BitVec 32).extractLsb' 28 4 ∧
    (0x0007AAAA : BitVec 32).extractLsb' 16 8 = (0x0F075555 : BitVec 32).extractLsb' 16 8 ∧
    (∃ t, exec .stepHeaderStreaming s = .next t ∧ t.stream = [9]) ∧
    headerDue s = true ∧ decodeStep (selectVector s) = .ok .stepHeaderStreaming :=
  ⟨⟨rfl, rfl⟩, ⟨rfl, rfl⟩, rfl, rfl, next_after (by decide +kernel), by decide +kernel, by decide +kernel⟩

/-- ProbeStep and ExhaustStep: the first and the last probe of an episode, and the exhausted one. -/
theorem witness_probe_step :
    (∀ n ∈ [(0 : BitVec 7), 119], (probingState .m80x60x16 8 7 n).st = .resyncing ∧
      (probingState .m80x60x16 8 7 n).probe.toNat < 120) ∧
    (probingState .m80x60x16 8 7 120).st = .resyncing ∧ (probingState .m80x60x16 8 7 120).probe = 120 := by
  decide +kernel

/-- HeaderRowsStreaming: a header of each class that stands in the stream, while STREAMING and while SYNCING. -/
theorem witness_header_rows_streaming :
    let s := streamingState .m80x60x16 8 7
    let y : State := { State.reset with st := .syncing, syncDone := true, preflight := 0xA }
    let arrived := fun (u : State) (h : BitVec 32) => { u with stream := headerBytes h ++ [9] }
    (s.st = .streaming ∧ s.pend = .none) ∧ (y.st = .syncing ∧ y.syncDone = true) ∧
    ((arrived s 0xF0070000).stream = headerBytes 0xF0070000 ++ [9] ∧ isDiscard 0xF0070000 = true) ∧
    ((arrived y 0x00250000).stream = headerBytes 0x00250000 ++ [9] ∧ isTele 0x00250000 (arrived y 0x00250000) = true) ∧
    ((arrived s 0x00070000).stream = headerBytes 0x00070000 ++ [9] ∧ isImage 0x00070000 (arrived s 0x00070000) = true) ∧
    (arrived s 0x00080000).stream = headerBytes 0x00080000 ++ [9] ∧ isDiscard 0x00080000 = false ∧
      matchesHeader 0x00080000 (arrived s 0x00080000) = false := by
  decide +kernel

/-- HeaderRowsProbing: a header of each class that stands in the stream, at the first and the last probe. -/
theorem witness_header_rows_probing :
    ∀ n ∈ [(0 : BitVec 7), 119],
      let s := probingState .m80x60x16 8 7 n
      let f := { probingState .m80x60x16 0xE 60 n with tele := 1 }
      let arrived := fun (u : State) (h : BitVec 32) => { u with stream := headerBytes h ++ [9] }
      s.st = .resyncing ∧ s.probe.toNat < 120 ∧ f.st = .resyncing ∧ f.probe.toNat < 120 ∧
      ((arrived s 0xF0070000).stream = headerBytes 0xF0070000 ++ [9] ∧ isDiscard 0xF0070000 = true) ∧
      isTele 0x003D0000 (arrived f 0x003D0000) = true ∧ isImage 0x00070000 (arrived s 0x00070000) = true ∧
      isNewframe 0x00000000 (arrived s 0x00000000) = true ∧
      isDiscard 0x00080000 = false ∧ matchesHeader 0x00080000 (arrived s 0x00080000) = false ∧
      isNewframe 0x00080000 (arrived s 0x00080000) = false := by
  decide +kernel

/-- NotEnabledWaits: states in which the steps are not enabled; a header that has not arrived whole; headers of another
class than the row's. -/
theorem witness_not_enabled :
    let y : State := { State.reset with st := .syncing, syncDone := true, stream := [1, 2, 3] }
    let s := streamingState .m80x60x16 8 7
    State.reset.st ≠ .preflight ∧ State.reset.st ≠ .syncing ∧ State.reset.st ≠ .streaming ∧
    State.reset.st ≠ .resyncing ∧ y.syncDone = true ∧ y.stream.length < 4 ∧ y.pulseDone = false ∧
    (probingState .m80x60x16 8 7 119).probe ≠ 120 ∧ 120 ≤ (probingState .m80x60x16 8 7 120).probe.toNat ∧
    headerDue (probingState .m80x60x16 8 7 120) = false ∧ headerDue State.reset = false ∧
    (headerDue y = true ∧ y.stream.take 4 ≠ headerBytes 0x01020300) ∧
    isDiscard 0x00070000 = false ∧ isTele 0x00070000 s = false ∧ isImage 0x00080000 s = false ∧
    isNewframe 0x00080000 s = false ∧ s.st ≠ .resyncing ∧ matchesHeader 0x00070000 s = true := by
  decide +kernel

/-- DirectLine: the first and the last line. -/
theorem witness_direct_line : ∀ y ∈ [(0 : BitVec 6), 59],
    let s := owed .img (flat 1 ++ [7]) (streamingState .m80x60x16 8 y)
    s.st = .streaming ∧ s.pend = .img ∧ s.mode = .m80x60x16 ∧ s.line.toNat < 60 ∧ (flat 1).length = 160 ∧
    s.stream = flat 1 ++ [7] := by
  decide +kernel

/-- ScratchLine: the first line of the first band and the last but one of the last band. -/
theorem witness_scratch_line : ∀ y ∈ [(0 : BitVec 6), 58],
    let s := owed .img (flat 1) (streamingState .m20x15x16 8 y)
    s.st = .streaming ∧ s.pend = .img ∧ s.mode ≠ .m80x60x16 ∧ s.line.toNat < 60 ∧
    s.line.toNat % lpb s.mode ≠ lpb s.mode - 1 ∧ (flat 1).length = 160 ∧ s.stream = flat 1 ++ [] := by
  decide +kernel

/-- BandRow: the first and the last band, at both pixel widths and every band height. -/
theorem witness_band_row :
    ∀ p ∈ [(StorageMode.m80x60x8, (0 : BitVec 6)), (.m40x30x16, 1), (.m40x30x8, 59), (.m20x15x16, 3), (.m20x15x8, 59)],
    let s := owed .img (flat 1) (streamingState p.1 8 p.2)
    s.st = .streaming ∧ s.pend = .img ∧ s.mode ≠ .m80x60x16 ∧ s.line.toNat < 60 ∧
    s.line.toNat % lpb s.mode = lpb s.mode - 1 ∧ (flat 1).length = 160 ∧ s.stream = flat 1 ++ [] := by
  decide +kernel

/-- TelemetryPayloads: sub-packet 0, and sub-packet 2. -/
theorem witness_telemetry_payloads :
    let s := owed .telStore (flat 1) (streamingState .m80x60x16 0xA 0)
    let d := { owed .telDrop (flat 1) (streamingState .m80x60x16 0xA 0) with tele := 2 }
    (s.st = .streaming ∧ s.pend = .telStore ∧ s.stream = flat 1 ++ []) ∧ d.st = .streaming ∧ d.pend = .telDrop ∧
    d.stream = flat 1 ++ [] ∧ (flat 1).length = 160 := by
  decide +kernel

/-- PadBytesStay: a band of MODE 5 is made, and offsets 20 and 31 are the ends of row 0's pad. -/
theorem witness_pad_bytes :
    let s := owed .img (flat 1) (streamingState .m20x15x8 8 3)
    (nextOf (exec .stepPayload s)).isSome = true ∧
    ∀ a ∈ [20, 31], 0 * pitch s.mode + width s.mode * bpp s.mode ≤ a ∧ a < (0 + 1) * pitch s.mode := by
  decide +kernel

/-- RamWriters: steps that change a byte of IMG, of SCR and of TEL (stored, allocated). -/
theorem witness_ram_writers :
    let i := { owed .img (flat 1) (streamingState .m80x60x16 8 0) with img := [(0, 5)] }
    let c := { owed .img (flat 1) (streamingState .m20x15x8 8 0) with scr := [(4, 5)] }
    let t := { owed .telStore (flat 1) (streamingState .m80x60x16 0xA 0) with tel := [(4, 5)] }
    let p : State := { startedState with preflight := 0xA, tel := [(4, 5)] }
    after (nextOf (exec .stepPayload i)) (fun u => readByte .img u 0 ≠ readByte .img i 0) ∧
    after (nextOf (exec .stepPayload c)) (fun u => readByte .scr u 4 ≠ readByte .scr c 4) ∧
    after (nextOf (exec .stepPayload t)) (fun u => readByte .tel u 4 ≠ readByte .tel t 4) ∧
    after (nextOf (exec .stepPreflight p)) (fun u => readByte .tel u 4 ≠ readByte .tel p 4) := by
  repeat' apply And.intro
  all_goals decide +kernel

/-- NoCancellation: an acknowledgement in the middle of a capture. -/
theorem witness_no_cancellation :
    let s := { streamingState .m80x60x16 8 7 with events := 1 }
    s.st ≠ .idle ∧ ∃ u, exec (decodeHost 0x10008 0x0001) s = .next u ∧ u.events.getLsbD 0 = false ∧
      s.events.getLsbD 0 = true := by
  intro s
  exact ⟨by decide, next_after (by decide +kernel)⟩

/-- ReadSideEffects: a read that answers, and one that raises. -/
theorem witness_read_side_effects :
    (0x00006 : BitVec 17).getLsbD 16 = false ∧ (∃ u, exec (decodeHost 0x00006 0) State.reset = .next u) ∧
    (0x00003 : BitVec 17).getLsbD 16 = false ∧ ∃ u, exec (decodeHost 0x00003 0) State.reset = .next u :=
  ⟨rfl, next_of (by decide +kernel), rfl, next_of (by decide +kernel)⟩

/-- EngineFrame and TransitionTable: engine steps of a legal capture; the first leaves PREFLIGHT. -/
theorem witness_engine_frame :
    Inv startedState ∧ portOf resetContext .stepPreflight ≠ .host ∧
    (∃ t, exec .stepPreflight startedState = .next t ∧ t.st = .syncing) ∧ Inv imageState ∧
    portOf resetContext .stepPayload ≠ .host ∧ ∃ t, exec .stepPayload imageState = .next t :=
  ⟨inv_started, by decide, next_after (by decide +kernel), inv_image, by decide, next_of (by decide +kernel)⟩

/-- OnlyStartLeavesIdle: an accepted START. -/
theorem witness_only_start_leaves_idle :
    State.reset.st = .idle ∧ ∃ t, exec (.wrCtrl 1) State.reset = .next t ∧ t.st ≠ .idle :=
  ⟨rfl, next_after (by decide +kernel)⟩

/-- ResultAtCaptureEnd: the last payload of a frame changes RESULT, sets FRAME_VALID and leaves for IDLE. -/
theorem witness_result_at_capture_end :
    let s := owed .img (flat 1) { streamingState .m80x60x16 8 59 with outRow := 59 }
    s.st ≠ .idle ∧ s.frameValid = false ∧
    after (nextOf (exec .stepPayload s)) (fun t => t.result ≠ s.result ∧ t.frameValid = true ∧ t.st = .idle) := by
  decide +kernel

/-- ProbeBudget: 120 discards. -/
theorem witness_probe_budget :
    let hs : List (BitVec 32) := List.replicate 120 0xF1234567
    let s : State := { probingState .m80x60x16 8 1 0 with
      stream := hs.flatMap headerBytes ++ [9], inputs := List.replicate 121 .engine ++ [.reset] }
    s.st = .resyncing ∧ s.probe = 0 ∧ hs.length = 120 ∧
    (∀ h ∈ hs, matchesHeader h s = false ∧ isNewframe h s = false) ∧
    s.stream = hs.flatMap headerBytes ++ [9] ∧ s.inputs = List.replicate 121 .engine ++ [.reset] := by
  intro hs s
  refine ⟨rfl, rfl, rfl, ?_, rfl, rfl⟩
  intro h hh
  rw [List.eq_of_mem_replicate hh]
  exact ⟨rfl, rfl⟩

/-- The packet of a raw line: its number as header, and a flat payload. -/
def linePacket (y : Nat) : BitVec 32 × List Byte := (BitVec.ofNat 32 (y * 0x10000), flat 1)

/-- CleanFrame: the 60 ordered packets of W3. -/
theorem witness_clean_frame :
    let packets := (List.range 60).map linePacket
    let s : State := { streamingState .m80x60x16 8 0 with
      stream := packets.flatMap (fun p => headerBytes p.1 ++ p.2) ++ [9]
      inputs := List.replicate 120 .engine ++ [.reset] }
    s.st = .streaming ∧ s.pend = .none ∧ s.mode = .m80x60x16 ∧ teleEn s = false ∧ s.line = 0 ∧ s.outRow = 0 ∧
    packets.length = 60 ∧
    (∀ y, ∀ p ∈ packets[y]?, isDiscard p.1 = false ∧ (headerLine p.1).toNat = y ∧ p.2.length = 160) ∧
    s.stream = packets.flatMap (fun p => headerBytes p.1 ++ p.2) ++ [9] ∧
    s.inputs = List.replicate 120 .engine ++ [.reset] := by
  intro packets s
  refine ⟨rfl, rfl, rfl, by decide +kernel, rfl, rfl, rfl, ?_, rfl, rfl⟩
  have all : ∀ y, y < 60 → isDiscard (linePacket y).1 = false ∧ (headerLine (linePacket y).1).toNat = y ∧
      (linePacket y).2.length = 160 := by decide +kernel
  intro y p hp
  have hlt : y < 60 := by
    by_contra hn
    rw [List.getElem?_eq_none (by simp [packets]; omega)] at hp
    cases hp
  have hq : packets[y]? = some (linePacket y) := by simp [packets, hlt]
  rw [hq] at hp
  cases hp
  exact all y hlt

/-- ReadsBounded: a capture's first step. -/
theorem witness_reads_bounded : Inv startedState ∧ startedState.st = .preflight := ⟨inv_started, rfl⟩

end Sys2Proof.Machine
end

section
/-! SUPPORT. The rules' next states by cases, the accesses of the reset state, and three rules of the whole block: who
writes the RAMs (10_state.md R71), what the engine leaves alone (R69), and where a capture's result is written (R37,
R38). -/

namespace Sys2Proof.Machine

/-! ## The next states of a payload and of a new frame by cases -/

theorem afterPayload_cases (s : State) :
    (s.outRow.toNat = height s.mode ∧ (teleEn s = false ∨ s.tele = 3) ∧
      afterPayload s = afterEnd .done { s with pend := .none }) ∨
    (¬(s.outRow.toNat = height s.mode ∧ (teleEn s = false ∨ s.tele = 3)) ∧
      afterPayload s = { s with pend := .none }) := by
  by_cases h : s.outRow.toNat = height s.mode ∧ (teleEn s = false ∨ s.tele = 3)
  · exact .inl ⟨h.1, h.2, if_pos h⟩
  · exact .inr ⟨h, if_neg h⟩

theorem afterNewFrame_cases (h : BitVec 32) (s : State) :
    (s.skip + 1 = 5 ∧ afterNewFrame h s = afterEnd .frameSkipLimit { s with skip := s.skip + 1 }) ∨
    (s.skip + 1 ≠ 5 ∧
      afterNewFrame h s = afterMatch h { s with skip := s.skip + 1, line := 0, outRow := 0, tele := 0 }) := by
  by_cases hk : s.skip + 1 = 5
  · exact .inl ⟨hk, if_pos hk⟩
  · exact .inr ⟨hk, if_neg hk⟩

theorem afterEnd_ramCells (r : Ram) (code : Result) (s : State) : ramCells r (afterEnd code s) = ramCells r s := by
  cases r <;> rfl

theorem afterMatch_ramCells (r : Ram) (h : BitVec 32) (s : State) : ramCells r (afterMatch h s) = ramCells r s := by
  cases r <;> rfl

theorem afterPayload_ramCells (r : Ram) (s : State) : ramCells r (afterPayload s) = ramCells r s := by
  rcases afterPayload_cases s with ⟨-, -, he⟩ | ⟨-, he⟩
  · rw [he, afterEnd_ramCells]; cases r <;> rfl
  · rw [he]; cases r <;> rfl

theorem afterNewFrame_ramCells (r : Ram) (h : BitVec 32) (s : State) :
    ramCells r (afterNewFrame h s) = ramCells r s := by
  rcases afterNewFrame_cases h s with ⟨-, he⟩ | ⟨-, he⟩
  · rw [he, afterEnd_ramCells]; cases r <;> rfl
  · rw [he, afterMatch_ramCells]; cases r <;> rfl

theorem afterPayload_epoch (s : State) : (afterPayload s).epoch = s.epoch := by
  rcases afterPayload_cases s with ⟨-, -, he⟩ | ⟨-, he⟩ <;> exact he ▸ rfl

theorem afterNewFrame_epoch (h : BitVec 32) (s : State) : (afterNewFrame h s).epoch = s.epoch := by
  rcases afterNewFrame_cases h s with ⟨-, he⟩ | ⟨-, he⟩ <;> exact he ▸ rfl

/-! ## What the engine leaves alone -/

/-- What no engine step writes, up to the events (10_state.md R69). -/
structure ConfigKept (s t : State) : Prop where
  mode : t.mode = s.mode
  preflight : t.preflight = s.preflight
  irqEn : t.irqEn = s.irqEn
  cause : t.busErrCause = s.busErrCause
  addr : t.busErrAddr = s.busErrAddr
  response : t.response = s.response
  inputs : t.inputs = s.inputs
  epoch : t.epoch = s.epoch
  events : t.events = s.events ∨ t.events = s.events ||| 0b001

theorem ConfigKept.of_payload {s u : State} (h : ConfigKept s u) (he : u.events = s.events) :
    ConfigKept s (afterPayload u) := by
  rcases afterPayload_cases u with ⟨-, -, hq⟩ | ⟨-, hq⟩ <;> rw [hq]
  · exact { h with events := .inr (congrArg (· ||| 0b001) he) }
  · exact { h with }

theorem ConfigKept.of_newFrame {k : BitVec 32} {s u : State} (h : ConfigKept s u) (he : u.events = s.events) :
    ConfigKept s (afterNewFrame k u) := by
  rcases afterNewFrame_cases k u with ⟨-, hq⟩ | ⟨-, hq⟩ <;> rw [hq]
  · exact { h with events := .inr (congrArg (· ||| 0b001) he) }
  · exact { h with }

/-- Only a host transaction writes the configuration; the engine sets DONE where it ends a capture. -/
theorem Effect.configKept {s t : State} {i : Instr} (e : Effect s i t) (hi : ¬HostRow i) : ConfigKept s t := by
  cases e
  case answers h | raises h => exact absurd h hi
  case start | startIgnored | mode | preflight | acknowledged | irqEnabled => exact absurd rfl hi
  case notBooted | exhausts => exact ⟨rfl, rfl, rfl, rfl, rfl, rfl, rfl, rfl, .inr rfl⟩
  case waits | allocates | frees | keeps | synced | accepts | losesSync | resumes | probes =>
    exact ⟨rfl, rfl, rfl, rfl, rfl, rfl, rfl, rfl, .inl rfl⟩
  case newFrame => exact .of_newFrame ⟨rfl, rfl, rfl, rfl, rfl, rfl, rfl, rfl, .inl rfl⟩ rfl
  case direct | slot | band | telemetry | drops =>
    exact .of_payload ⟨rfl, rfl, rfl, rfl, rfl, rfl, rfl, rfl, .inl rfl⟩ rfl

/-- Settles O53: an engine step or a header row has an effect that keeps the configuration. -/
theorem engineFrame : Obligations.EngineFrame := by
  intro c i s t hi he
  obtain ⟨hm, hp, hq, hc, ha, hr, hn, hk, hv⟩ := (exec_effect i s t he).configKept (mt (portOf_host_iff c i).mpr hi)
  exact ⟨hm, hp, hq, hc, ha, hr, hn, hk, hv⟩

/-! ## The writers of the RAMs -/

/-- No instruction counts a block reset: the power-on bytes stay what they were. -/
theorem Effect.epoch {s t : State} {i : Instr} (e : Effect s i t) : t.epoch = s.epoch := by
  cases e
  case newFrame => exact afterNewFrame_epoch _ _
  case direct | slot | band | telemetry | drops => exact afterPayload_epoch _
  all_goals rfl

/-- Which effects change the written bytes of which RAM. -/
theorem Effect.ramCells_cases {s t : State} {i : Instr} (e : Effect s i t) :
    (ramCells .img t = ramCells .img s ∨ i = .stepPayload ∧ s.st = .streaming ∧ s.pend = .img) ∧
    (ramCells .scr t = ramCells .scr s ∨
      i = .stepPayload ∧ s.st = .streaming ∧ s.pend = .img ∧ s.mode ≠ .m80x60x16) ∧
    (ramCells .tel t = ramCells .tel s ∨
      i = .stepPayload ∧ s.st = .streaming ∧ s.pend = .telStore ∨
      i = .stepPreflight ∧ s.st = .preflight ∧ booted s = true ∧ teleEn s = true ∧ s.tbufAlloc = false) := by
  cases e
  case allocates hs hb ht ha => exact ⟨.inl rfl, .inl rfl, .inr (.inr ⟨rfl, hs, hb, ht, ha⟩)⟩
  case direct hs hp _ _ _ _ =>
    exact ⟨.inr ⟨rfl, hs, hp⟩, .inl (afterPayload_ramCells _ _), .inl (afterPayload_ramCells _ _)⟩
  case slot hs hp hm _ _ _ =>
    exact ⟨.inr ⟨rfl, hs, hp⟩, .inr ⟨rfl, hs, hp, hm⟩, .inl (afterPayload_ramCells _ _)⟩
  case band hs hp hm _ _ _ =>
    exact ⟨.inr ⟨rfl, hs, hp⟩, .inr ⟨rfl, hs, hp, hm⟩, .inl (afterPayload_ramCells _ _)⟩
  case telemetry hs hp _ _ =>
    exact ⟨.inl (afterPayload_ramCells _ _), .inl (afterPayload_ramCells _ _), .inr (.inl ⟨rfl, hs, hp⟩)⟩
  case drops =>
    exact ⟨.inl (afterPayload_ramCells _ _), .inl (afterPayload_ramCells _ _), .inl (afterPayload_ramCells _ _)⟩
  case newFrame =>
    exact ⟨.inl (afterNewFrame_ramCells _ _ _), .inl (afterNewFrame_ramCells _ _ _),
      .inl (afterNewFrame_ramCells _ _ _)⟩
  all_goals exact ⟨.inl rfl, .inl rfl, .inl rfl⟩

/-- Settles O50: a RAM whose written bytes stay reads as before, so a changed byte names one of its writers. -/
theorem ramWriters : Obligations.RamWriters := by
  intro i s t he a
  have e := exec_effect i s t he
  have same : ∀ r, ramCells r t = ramCells r s → readByte r t a = readByte r s a :=
    fun r hr => readByte_congr r t s a hr e.epoch
  obtain ⟨himg, hscr, htel⟩ := e.ramCells_cases
  exact ⟨fun hne => himg.resolve_left (mt (same .img) hne), fun hne => hscr.resolve_left (mt (same .scr) hne),
    fun hne => htel.resolve_left (mt (same .tel) hne)⟩

/-! ## Where a capture ends -/

/-- What an effect does to the end of a capture: it ends one with a result of its own, DONE from STREAMING only, or it
leaves RESULT alone, sets no FRAME_VALID and does not enter IDLE. -/
def EndsOrGoesOn (s t : State) : Prop :=
  (∃ code u, t = afterEnd code u ∧ code ≠ .none ∧ s.st ≠ .idle ∧ (code = .done → s.st = .streaming)) ∨
  (t.result = s.result ∧ (t.frameValid = true → s.frameValid = true) ∧ (t.st = .idle → s.st = .idle))

theorem endsOrGoesOn_payload {s u : State} (hs : s.st = .streaming) (hst : u.st = s.st) (hr : u.result = s.result)
    (hf : u.frameValid = s.frameValid) : EndsOrGoesOn s (afterPayload u) := by
  rcases afterPayload_cases u with ⟨-, -, he⟩ | ⟨-, he⟩
  · exact .inl ⟨.done, _, he, nofun, by rw [hs]; nofun, fun _ => hs⟩
  · exact .inr (by rw [he]; exact ⟨hr, hf ▸ id, hst ▸ id⟩)

theorem endsOrGoesOn_newFrame {h : BitVec 32} {s u : State} (hs : s.st = .resyncing) (hr : u.result = s.result)
    (hf : u.frameValid = s.frameValid) : EndsOrGoesOn s (afterNewFrame h u) := by
  rcases afterNewFrame_cases h u with ⟨-, he⟩ | ⟨-, he⟩
  · exact .inl ⟨.frameSkipLimit, _, he, nofun, by rw [hs]; nofun, nofun⟩
  · exact .inr (by rw [he]; exact ⟨hr, hf ▸ id, nofun⟩)

theorem Effect.endsOrGoesOn {s t : State} {i : Instr} (e : Effect s i t) : EndsOrGoesOn s t := by
  cases e
  case notBooted hs _ => exact .inl ⟨.notBooted, s, rfl, nofun, by rw [hs]; nofun, nofun⟩
  case exhausts hs _ => exact .inl ⟨.resyncExhausted, s, rfl, nofun, by rw [hs]; nofun, nofun⟩
  case newFrame hs _ _ _ _ => exact endsOrGoesOn_newFrame hs rfl rfl
  case direct hs _ _ _ _ _ | slot hs _ _ _ _ _ | band hs _ _ _ _ _ | telemetry hs _ _ _ | drops hs _ _ _ =>
    exact endsOrGoesOn_payload hs rfl rfl rfl
  case mode => exact .inr ⟨rfl, fun hf => (Bool.and_eq_true_iff.mp hf).1, id⟩
  case start => exact .inr ⟨rfl, nofun, nofun⟩
  case allocates | frees | keeps | accepts | losesSync | resumes => exact .inr ⟨rfl, id, nofun⟩
  all_goals exact .inr ⟨rfl, id, id⟩

/-- Settles O56: what an effect writes to RESULT, FRAME_VALID and EVENTS is what ending a capture writes. -/
theorem resultAtCaptureEnd : Obligations.ResultAtCaptureEnd := by
  intro i s t he
  rcases (exec_effect i s t he).endsOrGoesOn with ⟨code, u, rfl, hc, hs, hd⟩ | ⟨hr, hf, hst⟩
  · have done_set : (afterEnd code u).events.getLsbD 0 = true := by simp [afterEnd]
    exact ⟨fun _ => ⟨hs, rfl⟩, fun hv _ => ⟨hd (of_decide_eq_true hv), rfl, of_decide_eq_true hv⟩,
      fun _ _ => ⟨done_set, hc, rfl⟩⟩
  · exact ⟨fun hn => absurd hr hn, fun hv hn => absurd (hf hv) (by simp [hn]), fun hs hi => absurd (hst hi) hs⟩

/-! ## The reset state -/

/-- Settles O2: each register read and each internal field has its value in State.reset, so each part is a
computation. -/
theorem resetRegisters : Obligations.ResetRegisters :=
  ⟨rfl, rfl, rfl, rfl, rfl, rfl, rfl, rfl, rfl, rfl, rfl, rfl, rfl, rfl, rfl⟩

end Sys2Proof.Machine
end

section
/-! SUPPORT. The invariant of the block (Safety.lean): what is asked of every state, what of a running capture, and
that each effect of an instruction and each move of the environment keeps it. -/

namespace Sys2Proof.Machine

/-! ## Bytes written -/

theorem bytesWritten_write {m : Memory} {off n : Nat} (h : BytesWritten m off n) (o : Nat) (bytes : List Byte) :
    BytesWritten (m.write o bytes) off n :=
  fun k hk => Memory.get_write_isSome m o bytes (off + k) (.inl (h k hk))

theorem bytesWritten_write_self (m : Memory) (off : Nat) (bytes : List Byte) :
    BytesWritten (m.write off bytes) off bytes.length :=
  fun k hk => Memory.get_write_isSome m off bytes (off + k) (.inr (by omega))

/-- Two writes in a row make one written range. -/
theorem bytesWritten_write_write (m : Memory) (off : Nat) (first second : List Byte) :
    BytesWritten ((m.write off first).write (off + first.length) second) off (first.length + second.length) :=
  fun k hk => Memory.get_write_isSome _ _ _ _ <| by
    by_cases h : k < first.length
    · exact .inl (bytesWritten_write_self m off first k h)
    · exact .inr (by omega)

theorem rowsWritten_write {m : StorageMode} {img : Memory} {n : Nat} (h : RowsWritten m img n) (o : Nat)
    (bytes : List Byte) : RowsWritten m (img.write o bytes) n :=
  fun r hr => bytesWritten_write (h r hr) o bytes

/-- Writing the pixel bytes of row n makes one row more. -/
theorem rowsWritten_write_row {m : StorageMode} {img : Memory} {n : Nat} {bytes : List Byte} (h : RowsWritten m img n)
    (hb : bytes.length = width m * bpp m) : RowsWritten m (img.write (rowOffset m n) bytes) (n + 1) := by
  intro r hr
  rcases Nat.lt_succ_iff_lt_or_eq.mp hr with hlt | rfl
  · exact bytesWritten_write (h r hlt) _ _
  · exact hb ▸ bytesWritten_write_self img _ bytes

/-! ## The invariant in parts -/

/-- What is asked of every state, capturing or not: the RAMs' form, the counters' ranges, an allocated buffer. -/
structure Bounds (s : State) : Prop where
  imgWf : Memory.wf Config.imgRamBytes s.img = true
  scrWf : Memory.wf Config.scrRamBytes s.scr = true
  telWf : Memory.wf Config.telRamBytes s.tel = true
  lineLe : s.line.toNat ≤ 60
  outRowLe : s.outRow.toNat ≤ 60
  skipLe : s.skip.toNat ≤ 5
  probeLe : s.probe.toNat ≤ 120
  causeLe : s.busErrCause.toNat ≤ 8
  telWritten : s.tbufAlloc = true → BytesWritten s.tel 0 Config.telRamBytes

/-- Where the telemetry of a frame pass stands (42_synchronizer.md R266, R277). -/
structure TelePass (enabled footer : Bool) (line : BitVec 6) (tele : BitVec 2) : Prop where
  off : enabled = false → tele = 0
  atHeader : enabled = true → footer = false → 0 < line.toNat → tele = 3
  atFooter : enabled = true → footer = true → line.toNat < 60 → tele = 0

/-- What a capture past preflight has done so far, in whichever of its states it is. -/
structure Pass (s : State) : Prop where
  booted : booted s = true
  skip : s.skip.toNat ≤ 4
  rowOfLine : s.outRow.toNat = s.line.toNat / lpb s.mode
  buffer : s.tbufAlloc = teleEn s
  tele : TelePass (teleEn s) (teleLoc s) s.line s.tele
  slots : direct s.mode = false →
    ∀ i, i < s.line.toNat % lpb s.mode → BytesWritten s.scr (slotOffset i) Config.pktBytes
  rows : RowsWritten s.mode s.img s.outRow.toNat

/-- The payload owed is the one the counters expect (42_synchronizer.md R268, R271). -/
structure Owed (s : State) : Prop where
  img : s.pend = .img → s.line.toNat < 60 ∧ inWindow s = false
  store : s.pend = .telStore → inWindow s = true ∧ s.tele = 0
  drop : s.pend = .telDrop → inWindow s = true ∧ s.tele ≠ 0

/-- The counters an accepted START clears (41_host_interface.md R200). -/
structure Cleared (s : State) : Prop where
  line : s.line = 0
  outRow : s.outRow = 0
  tele : s.tele = 0
  skip : s.skip = 0
  probe : s.probe = 0

theorem Inv.bounds {s : State} (h : Inv s) : Bounds s := { h with }

theorem Inv.pass {s : State} (h : Inv s) (hc : capturing s = true) : Pass s where
  booted := h.bootedIn hc
  skip := h.skipIn hc
  rowOfLine := h.rowOfLine hc
  buffer := h.bufferIn hc
  tele := ⟨h.teleOff hc, h.teleHeader hc, h.teleFooter hc⟩
  slots := h.slotsIn hc
  rows := h.rowsIn hc

theorem Inv.owed {s : State} (h : Inv s) : Owed s := ⟨h.pendImg, h.pendStore, h.pendDrop⟩

theorem Inv.pend_none {s : State} (h : Inv s) (hs : s.st ≠ .streaming) : s.pend = .none :=
  by_contra fun hp => hs (h.pendIn hp)

theorem Inv.syncDone_false {s : State} (h : Inv s) (hs : s.st ≠ .syncing) : s.syncDone = false :=
  Bool.eq_false_iff.mpr (mt h.syncDoneIn hs)

theorem Inv.frameValid_false {s : State} (h : Inv s) (hs : s.st ≠ .idle) : s.frameValid = false :=
  Bool.eq_false_iff.mpr fun hf => hs (h.validFrame hf).1

theorem Inv.cleared {s : State} (h : Inv s) (hs : s.st = .preflight ∨ s.st = .syncing) : Cleared s :=
  have ⟨hl, ho, ht, hk, hp⟩ := h.fresh hs
  ⟨hl, ho, ht, hk, hp⟩

theorem Inv.held {s : State} (h : Inv s) (hc : capturing s = true) : s.busHeld = true := h.bracket.trans hc

theorem Inv.released {s : State} (h : Inv s) (hc : capturing s = false) : s.busHeld = false := h.bracket.trans hc

theorem capturing_eq (s : State) :
    capturing s = decide (s.st = .syncing ∨ s.st = .streaming ∨ s.st = .resyncing) := by
  unfold capturing
  cases s.st <;> rfl

theorem owed_of_none {s : State} (h : s.pend = .none) : Owed s := by
  constructor <;> rw [h] <;> nofun

/-- A state in which no capture is past preflight. -/
theorem inv_of_not_capturing {s : State} (hb : Bounds s) (hc : capturing s = false) (hbus : s.busHeld = false)
    (hsd : s.syncDone = false) (hp : s.pend = .none) (hfresh : s.st = .preflight → Cleared s)
    (hv : s.frameValid = true → s.st = .idle ∧ s.result = .done ∧ RowsWritten s.mode s.img (height s.mode)) :
    Inv s := by
  have idle : ¬capturing s = true := by rw [hc]; decide
  have hst : s.st ≠ .syncing := fun h => idle (by rw [capturing, h])
  exact { hb, owed_of_none hp with
    syncDoneIn := fun h => absurd (hsd.symm.trans h) (by decide)
    pendIn := fun h => absurd hp h
    bracket := hbus.trans hc.symm
    fresh := fun h => have c := hfresh (h.resolve_right hst); ⟨c.line, c.outRow, c.tele, c.skip, c.probe⟩
    validFrame := hv
    pendImg := (owed_of_none hp).img
    pendStore := (owed_of_none hp).store
    pendDrop := (owed_of_none hp).drop
    bootedIn := fun h => absurd h idle
    skipIn := fun h => absurd h idle
    rowOfLine := fun h => absurd h idle
    bufferIn := fun h => absurd h idle
    teleOff := fun h => absurd h idle
    teleHeader := fun h => absurd h idle
    teleFooter := fun h => absurd h idle
    incomplete := fun h => absurd h idle
    slotsIn := fun h => absurd h idle
    rowsIn := fun h => absurd h idle }

/-- A state of a capture past preflight. -/
theorem inv_of_capturing {s : State} (hb : Bounds s) (hp : Pass s) (ho : Owed s) (hc : capturing s = true)
    (hbus : s.busHeld = true) (hv : s.frameValid = false) (hi : targetsMet s = false)
    (hsd : s.syncDone = true → s.st = .syncing) (hpd : s.pend ≠ .none → s.st = .streaming)
    (hfresh : s.st = .syncing → Cleared s) : Inv s := by
  have hst : s.st ≠ .preflight := fun h => by rw [capturing, h] at hc; cases hc
  exact { hb with
    syncDoneIn := hsd
    pendIn := hpd
    bracket := hbus.trans hc.symm
    bootedIn := fun _ => hp.booted
    fresh := fun h => have c := hfresh (h.resolve_left hst); ⟨c.line, c.outRow, c.tele, c.skip, c.probe⟩
    skipIn := fun _ => hp.skip
    rowOfLine := fun _ => hp.rowOfLine
    bufferIn := fun _ => hp.buffer
    teleOff := fun _ => hp.tele.off
    teleHeader := fun _ => hp.tele.atHeader
    teleFooter := fun _ => hp.tele.atFooter
    incomplete := fun _ => hi
    pendImg := ho.img
    pendStore := ho.store
    pendDrop := ho.drop
    slotsIn := fun _ => hp.slots
    rowsIn := fun _ => hp.rows
    validFrame := fun h => absurd (hv.symm.trans h) (by decide) }

/-! ## The reset state and the fields the invariant does not read -/

theorem bounds_reset : Bounds State.reset where
  imgWf := reset_memory_wf .img
  scrWf := reset_memory_wf .scr
  telWf := reset_memory_wf .tel
  lineLe := Nat.zero_le _
  outRowLe := Nat.zero_le _
  skipLe := Nat.zero_le _
  probeLe := Nat.zero_le _
  causeLe := Nat.zero_le _
  telWritten := nofun

theorem inv_reset : Inv State.reset := inv_of_not_capturing bounds_reset rfl rfl rfl rfl nofun nofun

/-- Settles O3: the reset state is idle with empty RAMs, cleared counters and no valid frame. -/
theorem resetMeetsInv : Obligations.ResetMeetsInv := inv_reset

/-- The invariant says nothing of the response, the events and their enables, the bus-error address, the header read
last, the schedule, the stream and the pulse report, and of the cause only its range. -/
theorem Inv.of_unread {s : State} (h : Inv s) (ev en : BitVec 3) {c : BitVec 4} (hc : c.toNat ≤ 8) (a : Word)
    (k : BitVec 32) (r : Option Response) (xs : List Input) (bytes : List Byte) (p : Bool) :
    Inv { s with
      events := ev, irqEn := en, busErrCause := c, busErrAddr := a, hdr := k, response := r, inputs := xs
      stream := bytes, pulseDone := p } :=
  { h with causeLe := hc }

/-- The end of a capture keeps the invariant; one that ends DONE has every row. -/
theorem inv_afterEnd {code : Result} {s : State} (hb : Bounds s)
    (hr : code = .done → RowsWritten s.mode s.img (height s.mode)) : Inv (afterEnd code s) :=
  inv_of_not_capturing { hb with } rfl rfl rfl rfl nofun fun hv =>
    have hd : code = .done := of_decide_eq_true hv
    ⟨rfl, hd, hr hd⟩

end Sys2Proof.Machine
end

section
/-! SUPPORT. The arithmetic of bands and rows, a frame pass step by step, and the next states the rules write out:
each keeps the invariant. -/

namespace Sys2Proof.Machine

/-! ## Sizes and counters -/

theorem lpb_cases (m : StorageMode) : lpb m = 1 ∨ lpb m = 2 ∨ lpb m = 4 := by cases m <;> decide

theorem height_pos (m : StorageMode) : 0 < height m := by cases m <;> decide

theorem height_le (m : StorageMode) : height m ≤ 60 := by cases m <;> decide

/-- The band of an image line is a row of the image (40_geometry.md R185). -/
theorem band_lt_height (m : StorageMode) {n : Nat} (h : n < 60) : n / lpb m < height m := by
  cases m <;> simp only [lpb, height] <;> omega

/-- The pixel bytes of an image row lie in IMG (40_geometry.md R188). -/
theorem row_fits (m : StorageMode) {r : Nat} (h : r < height m) : rowOffset m r + width m * bpp m ≤ 9600 := by
  cases m <;> simp only [rowOffset, pitch, width, bpp, height, Config.align] at h ⊢ <;> omega

/-- A line that does not end its band leaves the row and takes the next slot. -/
theorem band_goes_on (m : StorageMode) {n : Nat} (h : n % lpb m ≠ lpb m - 1) :
    (n + 1) / lpb m = n / lpb m ∧ (n + 1) % lpb m = n % lpb m + 1 := by
  rcases lpb_cases m with hl | hl | hl <;> rw [hl] at h ⊢ <;> omega

/-- The last line of a band ends its row. -/
theorem band_ends (m : StorageMode) {n : Nat} (h : n % lpb m = lpb m - 1) :
    (n + 1) / lpb m = n / lpb m + 1 ∧ (n + 1) % lpb m = 0 := by
  rcases lpb_cases m with hl | hl | hl <;> rw [hl] at h ⊢ <;> omega

theorem targetsMet_of_outRow_zero {s : State} (h : s.outRow = 0) : targetsMet s = false := by
  refine Bool.eq_false_iff.mpr fun ht => ?_
  have h0 : 0 = height s.mode := by rw [← ((targetsMet_iff s).mp ht).1, h]; rfl
  exact (height_pos s.mode).ne h0

/-! ## A frame pass -/

/-- With every counter of the pass at 0 nothing has been stored and nothing is asked for. -/
theorem pass_of_zero {s : State} (hb : booted s = true) (hk : s.skip.toNat ≤ 4) (ha : s.tbufAlloc = teleEn s)
    (hl : s.line = 0) (ho : s.outRow = 0) (ht : s.tele = 0) : Pass s where
  booted := hb
  skip := hk
  rowOfLine := by rw [hl, ho]; exact (Nat.zero_div _).symm
  buffer := ha
  tele := ⟨fun _ => ht, fun _ _ h => by rw [hl] at h; exact absurd h (by decide), fun _ _ _ => ht⟩
  slots := fun _ i hi => by rw [hl] at hi; exact absurd ((Nat.zero_mod _).symm ▸ hi) (Nat.not_lt_zero i)
  rows := fun r hr => by rw [ho] at hr; exact absurd hr (Nat.not_lt_zero r)

/-- An image line is accepted outside the window only: header telemetry is complete by then, footer telemetry has not
begun (42_synchronizer.md R266, R268). -/
theorem TelePass.line_succ {s : State} (h : TelePass (teleEn s) (teleLoc s) s.line s.tele) (hl : s.line.toNat < 60)
    (hw : inWindow s = false) : TelePass (teleEn s) (teleLoc s) (s.line + 1) s.tele where
  off := h.off
  atHeader := fun he hf _ => by
    by_cases h0 : 0 < s.line.toNat
    · exact h.atHeader he hf h0
    · have hpos : s.line.toNat = tpos s := by rw [tpos, hf]; exact Nat.eq_zero_of_not_pos h0
      have hge : ¬s.tele.toNat < 3 := fun hlt =>
        absurd ((inWindow_iff s).mpr ⟨he, hlt, hpos⟩) (Bool.eq_false_iff.mp hw)
      bv_omega
  atFooter := fun he hf _ => h.atFooter he hf hl

/-- A sub-packet is accepted in the open window only, at the line of its placement (42_synchronizer.md R266, R277). -/
theorem TelePass.tele_succ {s : State} (hw : inWindow s = true) :
    TelePass (teleEn s) (teleLoc s) s.line (s.tele + 1) := by
  obtain ⟨he, -, hl⟩ := (inWindow_iff s).mp hw
  refine ⟨fun h => ?_, fun _ hf hpos => ?_, fun _ hf hlt => ?_⟩
  · rw [he] at h; cases h
  · rw [hl, tpos, hf] at hpos; exact absurd hpos (by decide)
  · rw [hl, tpos, hf] at hlt; exact absurd hlt (by decide)

/-! ## RAMs filled by two writes in a row: header and payload, or sentinel and zeros -/

theorem wf_write_write {size off : Nat} {m : Memory} {first second : List Byte} (hw : Memory.wf size m = true)
    (h : off + first.length + second.length ≤ size) :
    Memory.wf size ((m.write off first).write (off + first.length) second) = true :=
  Memory.wf_write size _ _ second (Memory.wf_write size m off first hw (by omega)) h

/-! ## The next states of the rules keep the invariant -/

/-- A capture that is STREAMING holds the transport, has used its pulse and has no valid frame. -/
structure Streaming (s : State) : Prop where
  st : s.st = .streaming
  syncDone : s.syncDone = false
  busHeld : s.busHeld = true
  frameValid : s.frameValid = false

theorem Streaming.capturing {s : State} (h : Streaming s) : capturing s = true := by rw [capturing_eq, h.st]; rfl

theorem Inv.streaming {s : State} (h : Inv s) (hs : s.st = .streaming) : Streaming s where
  st := hs
  syncDone := h.syncDone_false (by rw [hs]; nofun)
  busHeld := h.held (by rw [capturing_eq, hs]; rfl)
  frameValid := h.frameValid_false (by rw [hs]; nofun)

theorem inv_of_streaming {s : State} (hr : Streaming s) (hb : Bounds s) (hp : Pass s) (ho : Owed s)
    (hi : targetsMet s = false) : Inv s :=
  inv_of_capturing hb hp ho hr.capturing hr.busHeld hr.frameValid hi (fun h => absurd (hr.syncDone.symm.trans h) nofun)
    (fun _ => hr.st) (fun h => absurd (hr.st.symm.trans h) nofun)

/-- After a payload the capture is done, with every row, or goes on with a target to meet. -/
theorem inv_afterPayload {s : State} (hr : Streaming s) (hb : Bounds s) (hp : Pass s) : Inv (afterPayload s) := by
  rcases afterPayload_cases s with ⟨hrows, -, he⟩ | ⟨hn, he⟩ <;> rw [he]
  · exact inv_afterEnd { hb with } fun _ => hrows ▸ hp.rows
  · exact inv_of_streaming { hr with } { hb with } { hp with } (owed_of_none rfl)
      (Bool.eq_false_iff.mpr (mt (targetsMet_iff _).mp hn))

/-- The payload owed after a match is the one of its class (42_synchronizer.md R271, R272). -/
theorem owed_afterMatch {h : BitVec 32} {s : State}
    (hm : isTele h s = false → s.line.toNat < 60 ∧ inWindow s = false) :
    Owed (afterMatch h s) := by
  have hq : (afterMatch h s).pend = if isTele h s then (if s.tele = 0 then .telStore else .telDrop) else .img := rfl
  cases ht : isTele h s
  · exact ⟨fun _ => hm ht, by rw [hq, ht]; nofun, by rw [hq, ht]; nofun⟩
  · have hw : inWindow s = true := ((isTele_iff h s).mp ht).2
    by_cases h0 : s.tele = 0
    · exact ⟨by rw [hq, ht, if_pos h0]; nofun, fun _ => ⟨hw, h0⟩, by rw [hq, ht, if_pos h0]; nofun⟩
    · exact ⟨by rw [hq, ht, if_neg h0]; nofun, by rw [hq, ht, if_neg h0]; nofun, fun _ => ⟨hw, h0⟩⟩

/-- A header accepted in a running capture. -/
theorem inv_afterMatch {h : BitVec 32} {s : State} (hb : Bounds s) (hp : Pass s) (hi : targetsMet s = false)
    (hsd : s.syncDone = false) (hbus : s.busHeld = true) (hv : s.frameValid = false)
    (hm : isTele h s = false → s.line.toNat < 60 ∧ inWindow s = false) : Inv (afterMatch h s) :=
  inv_of_streaming ⟨rfl, hsd, hbus, hv⟩ { hb with } { hp with } (owed_afterMatch hm) hi

/-- A header that matches but not as telemetry is the expected image line (42_synchronizer.md R268, R269). -/
theorem image_of_matches {h : BitVec 32} {s : State} (hm : matchesHeader h s = true) (ht : isTele h s = false) :
    s.line.toNat < 60 ∧ inWindow s = false := by
  rcases (matchesHeader_iff h s).mp hm with hc | hc
  · exact absurd (ht.symm.trans hc) nofun
  · obtain ⟨-, hw, hl, -⟩ := (isImage_iff h s).mp hc
    exact ⟨hl, hw⟩

/-- PREFLIGHT ends with a buffer that matches TELE_EN (42_synchronizer.md R263, R264). -/
theorem Inv.enterSyncing {s : State} (h : Inv s) (hs : s.st = .preflight) (hb : booted s = true) {alloc : Bool}
    {tel : Memory} (hw : Memory.wf Config.telRamBytes tel = true) (ha : alloc = teleEn s)
    (hf : alloc = true → BytesWritten tel 0 Config.telRamBytes) :
    Inv (Machine.enterSyncing { s with tbufAlloc := alloc, tel := tel }) := by
  have c : Cleared s := h.cleared (.inl hs)
  have ne : s.st ≠ .streaming := by rw [hs]; nofun
  have skip_le : s.skip.toNat ≤ 4 := by rw [c.skip]; decide
  exact inv_of_capturing { h.bounds with telWf := hw, telWritten := hf }
    (pass_of_zero hb skip_le ha c.line c.outRow c.tele)
    (owed_of_none (h.pend_none ne)) rfl rfl (h.frameValid_false (by rw [hs]; nofun))
    (targetsMet_of_outRow_zero c.outRow) nofun (fun hp => absurd (h.pend_none ne) hp) (fun _ => { c with })

end Sys2Proof.Machine
end

section
/-! SUPPORT. Every effect of an instruction, and every move of the environment, keeps the invariant. -/

namespace Sys2Proof.Machine

/-! ## Payloads -/

/-- The output row of the band in progress, once stored: IMG keeps its form and has one row more. -/
theorem row_stored {s : State} (h : Inv s) (hs : s.st = .streaming) (hl : s.line.toNat < 60) {bytes : List Byte}
    (hb : bytes.length = width s.mode * bpp s.mode) :
    Memory.wf Config.imgRamBytes (s.img.write (rowOffset s.mode (s.line.toNat / lpb s.mode)) bytes) = true ∧
    (s.outRow + 1).toNat = s.line.toNat / lpb s.mode + 1 ∧ (s.outRow + 1).toNat ≤ 60 ∧
    RowsWritten s.mode (s.img.write (rowOffset s.mode (s.line.toNat / lpb s.mode)) bytes) (s.outRow + 1).toNat := by
  have p : Pass s := h.pass (h.streaming hs).capturing
  have hrow : s.line.toNat / lpb s.mode < height s.mode := band_lt_height s.mode hl
  have hle : height s.mode ≤ 60 := height_le s.mode
  have hn : (s.outRow + 1).toNat = s.line.toNat / lpb s.mode + 1 := by
    have := p.rowOfLine
    bv_omega
  refine ⟨Memory.wf_write _ _ _ _ h.imgWf (hb ▸ row_fits s.mode hrow), hn, by omega, ?_⟩
  rw [hn]
  exact rowsWritten_write_row (p.rowOfLine ▸ p.rows) hb

/-- A packet in its scratch slot: SCR keeps its form, the slot is written whole, and the slots before it stay. -/
theorem slot_stored {s : State} (h : Inv s) {pay rest : List Byte} (hy : pay.length = 160) :
    Memory.wf Config.scrRamBytes (slotStored pay rest s).scr = true ∧
    BytesWritten (slotStored pay rest s).scr (slotOffset (slotOf s)) Config.pktBytes ∧
    ∀ i, BytesWritten s.scr (slotOffset i) Config.pktBytes →
      BytesWritten (slotStored pay rest s).scr (slotOffset i) Config.pktBytes := by
  have fits : 176 * slotOf s + (headerBytes s.hdr).length + pay.length ≤ Config.scrRamBytes := by
    have := slotOf_lt s
    have := lpb_le s.mode
    rw [headerBytes_length, hy, Config.scrRamBytes]
    omega
  have whole : (headerBytes s.hdr).length + pay.length = Config.pktBytes := by rw [headerBytes_length, hy]; rfl
  exact ⟨wf_write_write h.scrWf fits, whole ▸ bytesWritten_write_write s.scr _ _ _,
    fun i hi => bytesWritten_write (bytesWritten_write hi _ _) _ _⟩

/-- Two writes that fill TEL. -/
theorem tel_filled {m : Memory} (hw : Memory.wf Config.telRamBytes m = true) {first second : List Byte}
    (hl : first.length + second.length = Config.telRamBytes) :
    Memory.wf Config.telRamBytes ((m.write 0 first).write first.length second) = true ∧
    BytesWritten ((m.write 0 first).write first.length second) 0 Config.telRamBytes := by
  have hf := wf_write_write (off := 0) (first := first) (second := second) hw (by omega)
  have hb := bytesWritten_write_write m 0 first second
  rw [Nat.zero_add] at hf hb
  exact ⟨hf, hl ▸ hb⟩

theorem line_succ_toNat {s : State} (hl : s.line.toNat < 60) : (s.line + 1).toNat = s.line.toNat + 1 := by bv_omega

/-- MODE 0: each line is a row of IMG, and no slot is in use. -/
theorem inv_direct {s : State} (h : Inv s) {pay rest : List Byte} (hs : s.st = .streaming) (hp : s.pend = .img)
    (hm : s.mode = .m80x60x16) (hl : s.line.toNat < 60) (hy : pay.length = 160) :
    Inv (afterPayload (directStored pay rest s)) := by
  have r : Streaming s := h.streaming hs
  have p : Pass s := h.pass r.capturing
  have hone : lpb s.mode = 1 := by rw [hm]; rfl
  have hoff : rowOffset s.mode (s.line.toNat / lpb s.mode) = s.line.toNat * 160 := by rw [hone, Nat.div_one, hm]; rfl
  have hn : (s.line + 1).toNat = s.line.toNat + 1 := line_succ_toNat hl
  obtain ⟨hwf, hout, hle, hrows⟩ := row_stored h hs hl (bytes := pay) (by rw [hy, hm]; rfl)
  rw [hoff] at hwf hrows
  refine inv_afterPayload { r with }
    { h.bounds with imgWf := hwf, lineLe := ?_, outRowLe := hle }
    { p with
      rowOfLine := ?_
      tele := p.tele.line_succ hl (h.pendImg hp).2
      slots := fun hd => absurd hd (by rw [direct, show (directStored pay rest s).mode = s.mode from rfl, hm]; decide)
      rows := hrows }
  · show (s.line + 1).toNat ≤ 60
    omega
  · show (s.outRow + 1).toNat = (s.line + 1).toNat / lpb s.mode
    rw [hout, hn, hone, Nat.div_one, Nat.div_one]

/-- A line inside its band: one slot more, no row. -/
theorem inv_slot {s : State} (h : Inv s) {pay rest : List Byte} (hs : s.st = .streaming) (hp : s.pend = .img)
    (hk : slotOf s ≠ lpb s.mode - 1) (hy : pay.length = 160) :
    Inv (afterPayload { slotStored pay rest s with line := s.line + 1 }) := by
  have r : Streaming s := h.streaming hs
  have p : Pass s := h.pass r.capturing
  obtain ⟨hl, hw⟩ := h.pendImg hp
  have hn : (s.line + 1).toNat = s.line.toNat + 1 := line_succ_toNat hl
  obtain ⟨hdiv, hmod⟩ := band_goes_on s.mode hk
  obtain ⟨hwf, hnew, hold⟩ := slot_stored (rest := rest) h hy
  refine inv_afterPayload { r with } { h.bounds with scrWf := hwf, lineLe := ?_ }
    { p with rowOfLine := ?_, tele := p.tele.line_succ hl hw, slots := fun hd i hi => ?_ }
  · show (s.line + 1).toNat ≤ 60
    omega
  · show s.outRow.toNat = (s.line + 1).toNat / lpb s.mode
    rw [hn, hdiv, p.rowOfLine]
  · have hi : i < (s.line + 1).toNat % lpb s.mode := hi
    rw [hn, hmod] at hi
    rcases Nat.lt_succ_iff_lt_or_eq.mp hi with hlt | rfl
    · exact hold i (p.slots hd i hlt)
    · exact hnew

/-- The last line of its band: one row more, and the next band has no slot yet. -/
theorem inv_band {s : State} (h : Inv s) {pay rest : List Byte} (hs : s.st = .streaming) (hp : s.pend = .img)
    (hk : slotOf s = lpb s.mode - 1) (hy : pay.length = 160) :
    Inv (afterPayload { slotStored pay rest s with
      img := s.img.write (rowOffset s.mode (s.line.toNat / lpb s.mode)) (bandBytes (slotStored pay rest s))
      line := s.line + 1
      outRow := s.outRow + 1 }) := by
  have r : Streaming s := h.streaming hs
  have p : Pass s := h.pass r.capturing
  obtain ⟨hl, hw⟩ := h.pendImg hp
  have hn : (s.line + 1).toNat = s.line.toNat + 1 := line_succ_toNat hl
  obtain ⟨hdiv, hmod⟩ := band_ends s.mode hk
  obtain ⟨himg, hout, hle, hrows⟩ := row_stored h hs hl (bandBytes_length (slotStored pay rest s))
  refine inv_afterPayload { r with }
    { h.bounds with imgWf := himg, scrWf := (slot_stored (rest := rest) h hy).1, lineLe := ?_, outRowLe := hle }
    { p with rowOfLine := ?_, tele := p.tele.line_succ hl hw, slots := fun _ i hi => ?_, rows := hrows }
  · show (s.line + 1).toNat ≤ 60
    omega
  · show (s.outRow + 1).toNat = (s.line + 1).toNat / lpb s.mode
    rw [hn, hdiv, hout]
  · have hi : i < (s.line + 1).toNat % lpb s.mode := hi
    rw [hn, hmod] at hi
    exact absurd hi (Nat.not_lt_zero i)

/-- Sub-packet 0 fills TEL. -/
theorem inv_telemetry {s : State} (h : Inv s) {pay rest : List Byte} (hs : s.st = .streaming)
    (hp : s.pend = .telStore) (hy : pay.length = 160) :
    Inv (afterPayload { s with
      stream := rest
      tel := (s.tel.write 0 (headerBytes s.hdr)).write 4 pay
      tele := s.tele + 1 }) := by
  have r : Streaming s := h.streaming hs
  have p : Pass s := h.pass r.capturing
  obtain ⟨hwf, hfull⟩ := tel_filled (first := headerBytes s.hdr) (second := pay) h.telWf
    (by rw [headerBytes_length, hy]; rfl)
  exact inv_afterPayload { r with } { h.bounds with telWf := hwf, telWritten := fun _ => hfull }
    { p with tele := .tele_succ (h.pendStore hp).1 }

theorem inv_drops {s : State} (h : Inv s) {rest : List Byte} (hs : s.st = .streaming) (hp : s.pend = .telDrop) :
    Inv (afterPayload { s with stream := rest, tele := s.tele + 1 }) :=
  have r : Streaming s := h.streaming hs
  inv_afterPayload { r with } { h.bounds with }
    { h.pass r.capturing with tele := .tele_succ (h.pendDrop hp).1 }

/-! ## Headers -/

theorem capturing_of_headerDue {s : State} (hd : HeaderDue s) : capturing s = true := by
  rw [capturing_eq]
  rcases hd with ⟨hs, -⟩ | ⟨hs, -⟩ <;> rw [hs] <;> rfl

theorem not_idle_of_capturing {s : State} (hc : capturing s = true) : s.st ≠ .idle :=
  fun hs => by rw [capturing_eq, hs] at hc; cases hc

theorem inv_accepts {s : State} (h : Inv s) {k : BitVec 32} {rest : List Byte} (hd : HeaderDue s)
    (hm : matchesHeader k s = true) : Inv (afterMatch k (afterHeaderRead k rest s)) :=
  have hc := capturing_of_headerDue hd
  inv_afterMatch { h.bounds with } { h.pass hc with } (h.incomplete hc) rfl (h.held hc)
    (h.frameValid_false (not_idle_of_capturing hc)) (image_of_matches hm)

theorem pend_none_of_headerDue {s : State} (h : Inv s) (hd : HeaderDue s) : s.pend = .none := by
  rcases hd with ⟨hs, -⟩ | ⟨-, hp⟩
  · exact h.pend_none (by rw [hs]; nofun)
  · exact hp

theorem inv_losesSync {s : State} (h : Inv s) {k : BitVec 32} {rest : List Byte} (hd : HeaderDue s) :
    Inv { afterHeaderRead k rest s with st := .resyncing, probe := 0 } :=
  have hc := capturing_of_headerDue hd
  have hp := pend_none_of_headerDue h hd
  inv_of_capturing { h.bounds with probeLe := Nat.zero_le _ } { h.pass hc with } (owed_of_none hp) rfl (h.held hc)
    (h.frameValid_false (not_idle_of_capturing hc)) (h.incomplete hc) nofun (fun hn => absurd hp hn) nofun

/-! ## Probes -/

theorem capturing_of_resyncing {s : State} (hs : s.st = .resyncing) : capturing s = true := by
  rw [capturing_eq, hs]; rfl

theorem Inv.resyncing_idle {s : State} (h : Inv s) (hs : s.st = .resyncing) :
    s.pend = .none ∧ s.syncDone = false ∧ s.frameValid = false :=
  ⟨h.pend_none (by rw [hs]; nofun), h.syncDone_false (by rw [hs]; nofun), h.frameValid_false (by rw [hs]; nofun)⟩

theorem bounds_probed {s : State} (h : Inv s) (hp : s.probe.toNat < 120) (k : BitVec 32) (rest : List Byte) :
    Bounds (afterProbeRead k rest s) :=
  have hle : (s.probe + 1).toNat ≤ 120 := by bv_omega
  { h.bounds with probeLe := hle }

theorem inv_resumes {s : State} (h : Inv s) {k : BitVec 32} {rest : List Byte} (hs : s.st = .resyncing)
    (hp : s.probe.toNat < 120) (hm : matchesHeader k s = true) : Inv (afterMatch k (afterProbeRead k rest s)) :=
  have hc := capturing_of_resyncing hs
  have ⟨_, hsd, hv⟩ := h.resyncing_idle hs
  inv_afterMatch (bounds_probed h hp k rest) { h.pass hc with } (h.incomplete hc) hsd (h.held hc) hv
    (image_of_matches hm)

theorem inv_probes {s : State} (h : Inv s) {k : BitVec 32} {rest : List Byte} (hs : s.st = .resyncing)
    (hp : s.probe.toNat < 120) : Inv (afterProbeRead k rest s) :=
  have hc := capturing_of_resyncing hs
  have ⟨hn, hsd, hv⟩ := h.resyncing_idle hs
  inv_of_capturing (bounds_probed h hp k rest) { h.pass hc with } (owed_of_none hn) hc (h.held hc) hv (h.incomplete hc)
    (fun hd => absurd (hsd.symm.trans hd) nofun) (fun hne => absurd hn hne) (fun hy => absurd (hs.symm.trans hy) nofun)

/-- A new frame ends the capture at its fifth skip, or starts the pass again with every counter of it at 0, where the
header is telemetry or line 0 (42_synchronizer.md R284, R285). -/
theorem inv_newFrame {s : State} (h : Inv s) {k : BitVec 32} {rest : List Byte} (hs : s.st = .resyncing)
    (hp : s.probe.toNat < 120) (hn : isNewframe k s = true) : Inv (afterNewFrame k (afterProbeRead k rest s)) := by
  have hc := capturing_of_resyncing hs
  have p : Pass s := h.pass hc
  obtain ⟨-, hsd, hv⟩ := h.resyncing_idle hs
  have hb := bounds_probed h hp k rest
  have skipped : (s.skip + 1).toNat ≤ 5 := by have := p.skip; bv_omega
  rcases afterNewFrame_cases k (afterProbeRead k rest s) with ⟨-, he⟩ | ⟨hne, he⟩ <;> rw [he]
  · exact inv_afterEnd { hb with skipLe := skipped } nofun
  · have hne : s.skip + 1 ≠ 5 := hne
    have hk : (s.skip + 1).toNat ≤ 4 := by bv_omega
    have hd : isDiscard k = false := ((isNewframe_iff k s).mp hn).1
    refine inv_afterMatch
      { hb with lineLe := Nat.zero_le _, outRowLe := Nat.zero_le _, skipLe := skipped }
      (pass_of_zero p.booted hk p.buffer rfl rfl rfl) (targetsMet_of_outRow_zero rfl) hsd (h.held hc) hv
      fun ht => ⟨show (0 : BitVec 6).toNat < 60 by decide, ?_⟩
    exact Bool.eq_false_iff.mpr fun hw => Bool.eq_false_iff.mp ht ((isTele_iff k _).mpr ⟨hd, hw⟩)

/-! ## The host's writes, while idle -/

/-- Another mode or preflight configuration of an idle block; the frame stays valid in its own mode only. -/
theorem inv_configured {s : State} (h : Inv s) (hs : s.st = .idle) (m : StorageMode) (f : BitVec 4) (v : Bool)
    (hv : v = true → s.frameValid = true ∧ m = s.mode) (r : Option Response) :
    Inv { s with mode := m, preflight := f, frameValid := v, response := r } := by
  have hc : capturing s = false := by rw [capturing_eq, hs]; rfl
  refine inv_of_not_capturing { h.bounds with } hc (h.released hc) (h.syncDone_false (by rw [hs]; nofun))
    (h.pend_none (by rw [hs]; nofun)) (fun hp => absurd (hs.symm.trans hp) nofun) fun hf => ?_
  obtain ⟨hvalid, rfl⟩ := hv hf
  exact h.validFrame hvalid

theorem inv_start {s : State} (h : Inv s) (hs : s.st = .idle) (r : Option Response) :
    Inv { startCapture s with response := r } :=
  have hc : capturing s = false := by rw [capturing_eq, hs]; rfl
  inv_of_not_capturing
    { h.bounds with
      lineLe := Nat.zero_le _, outRowLe := Nat.zero_le _, skipLe := Nat.zero_le _, probeLe := Nat.zero_le _ }
    rfl (h.released hc) rfl rfl (fun _ => ⟨rfl, rfl, rfl, rfl, rfl⟩) nofun

/-! ## Every effect and every move -/

theorem causeCode_le (c : BusError) : (causeCode c).toNat ≤ 8 := by cases c <;> decide

theorem Effect.inv {s t : State} {i : Instr} (e : Effect s i t) (h : Inv s) : Inv t := by
  cases e
  case waits => exact h
  case answers | startIgnored | acknowledged | irqEnabled => exact h.of_unread _ _ h.causeLe _ _ _ _ _ _
  case raises c _ _ => exact h.of_unread _ _ (causeCode_le c) _ _ _ _ _ _
  case start hs => exact inv_start h hs _
  case mode hs _ =>
    exact inv_configured h hs _ _ _ (fun hv => (Bool.and_eq_true_iff.mp hv).imp_right of_decide_eq_true) _
  case preflight hs => exact inv_configured h hs _ _ _ (fun hv => ⟨hv, rfl⟩) _
  case notBooted | exhausts => exact inv_afterEnd h.bounds nofun
  case allocates hs hb ht _ =>
    obtain ⟨hwf, hfull⟩ := tel_filled (first := [0x0F]) (second := zeroBytes 163) h.telWf
      (by rw [zeroBytes_length]; rfl)
    exact h.enterSyncing hs hb hwf ht.symm fun _ => hfull
  case frees hs hb ht _ => exact h.enterSyncing hs hb h.telWf ht.symm nofun
  case keeps hs hb ht => exact h.enterSyncing hs hb h.telWf ht.symm h.telWritten
  case synced hs _ _ => exact { h with syncDoneIn := fun _ => hs }
  case accepts hd hm _ _ => exact inv_accepts h hd hm
  case losesSync hd _ _ _ => exact inv_losesSync h hd
  case resumes hs hp hm _ _ => exact inv_resumes h hs hp hm
  case newFrame hs hp hn _ _ => exact inv_newFrame h hs hp hn
  case probes hs hp _ _ _ _ => exact inv_probes h hs hp
  case direct hs hp hm hl hy _ => exact inv_direct h hs hp hm hl hy
  case slot hs hp _ hk hy _ => exact inv_slot h hs hp hk hy
  case band hs hp _ hk hy _ => exact inv_band h hs hp hk hy
  case telemetry hs hp hy _ => exact inv_telemetry h hs hp hy
  case drops hs hp _ _ => exact inv_drops h hs hp

/-- A move without an instruction: a delivery and a pulse report write no field of the invariant, and a block reset
leaves the reset state. -/
theorem inv_environment {s : State} (x : Input) (h : Inv s) : Inv (environment x s) := by
  cases x with
  | host _ _ | engine | header => exact h
  | stream _ | pulseDone => exact h.of_unread _ _ h.causeLe _ _ _ _ _ _
  | reset => exact { inv_reset with }

/-- A step with no move to come stays; with one, it is an effect of the instruction fetched or the environment's. -/
theorem step_cases {s t : State} (h : step s = .next t) :
    t = s ∨ ∃ x rest, s.inputs = x :: rest ∧
      ((∃ i, fetch x s = some i ∧ Effect { s with inputs := rest } i t) ∨
        t = environment x { s with inputs := rest }) := by
  unfold step at h
  split at h
  · exact .inl (Host.Outcome.next.inj h).symm
  · rename_i x rest hx
    split at h
    · rename_i i hi
      exact .inr ⟨x, rest, hx, .inl ⟨i, hi, exec_effect i _ t h⟩⟩
    · exact .inr ⟨x, rest, hx, .inr (Host.Outcome.next.inj h).symm⟩

/-- Settles O4: a step is an effect of an instruction or a move of the environment, after its move is taken off the
schedule, and each of these keeps the invariant. -/
theorem stepKeepsInv : Obligations.StepKeepsInv := by
  intro s t h he
  rcases step_cases he with rfl | ⟨x, rest, -, ⟨i, -, e⟩ | rfl⟩
  · exact h
  · exact e.inv { h with }
  · exact inv_environment x { h with }

end Sys2Proof.Machine
end

section
/-! SUPPORT. The reads of the host bus (20_memory.md R114, R120): what a step runs, the rows a read transaction decodes
to, and everything a read can change. -/

namespace Sys2Proof.Machine

/-! ## What a step runs -/

theorem fetch_eq_some {x : Input} {s : State} {p : Port} {bytes : List Byte} {i : Instr}
    (hb : fetchBytes x s = some (p, bytes)) (hd : decode p bytes = .ok i) : fetch x s = some i := by
  simp only [fetch, hb, hd, Except.toOption]

theorem step_of_fetch {x : Input} {rest : List Input} {s : State} {i : Instr} (hx : s.inputs = x :: rest)
    (hf : fetch x s = some i) : step s = exec i { s with inputs := rest } := by
  simp only [step, hx, hf]

/-- A header turn fetches the four bytes that stand next in the stream (30_encoding.md R141). -/
theorem fetchBytes_header {s : State} {h : BitVec 32} {rest : List Byte} (hs : s.stream = headerBytes h ++ rest) :
    fetchBytes .header s = some (.header (headerContext s), headerBytes h) := by
  have enough : 4 ≤ s.stream.length := by rw [hs, List.length_append, headerBytes_length]; omega
  have taken : s.stream.take 4 = headerBytes h := by rw [hs]; exact List.take_left' (headerBytes_length h)
  calc fetchBytes .header s = some (.header (headerContext s), s.stream.take 4) := if_pos enough
    _ = some (.header (headerContext s), headerBytes h) := by rw [taken]

/-- Settles O6: a step runs what its move fetches, and each kind of move fetches its own bytes. -/
theorem stepRunsDecoded : Obligations.StepRunsDecoded := fun _ =>
  ⟨fun _ _ _ _ _ hx hb hd => step_of_fetch hx (fetch_eq_some hb hd), fun _ _ => rfl, rfl,
    fun _ _ hs => fetchBytes_header hs⟩

/-! ## The rows of a read transaction -/

/-- The rows that a read of address a can be (30_encoding.md R151, R155). -/
inductive ReadRow (a : Word) : Instr → Prop
  | misaligned : ReadRow a (.accMisaligned (.rd a))
  | unmapped : ReadRow a (.accUnmapped (.rd a))
  | img : ReadRow a (.rdImg a)
  | traw : ReadRow a (.rdTraw a)
  | field (r : Word × Instr) (hr : r ∈ teleRows) (ha : r.1 = a) : ReadRow a r.2
  | control (r : Word × Instr × (Word → Instr)) (hr : r ∈ controlRows) (ha : r.1 = a) : ReadRow a r.2.1

theorem decodeHost_read (t : BitVec 17) (d : Word) (ht : t.getLsbD 16 = false) :
    ReadRow (t.extractLsb' 0 16) (decodeHost t d) := by
  simp only [decodeHost, ht, accessOf, Bool.false_eq_true, if_false]
  split
  · exact .misaligned
  · exact .img
  · exact .traw
  · split
    · next r hr => exact .field r (List.mem_of_find?_eq_some hr) (by simpa using List.find?_some hr)
    · exact .unmapped
  · split
    · next r hr => exact .control r (List.mem_of_find?_eq_some hr) (by simpa using List.find?_some hr)
    · exact .unmapped
  · exact .unmapped

/-! ## What a read can change -/

/-- Reads of control registers never raise (41_host_interface.md R201 to R229). -/
theorem exec_controlRead {r : Word × Instr × (Word → Instr)} (hr : r ∈ controlRows) (s : State) :
    ∃ v, exec r.2.1 s = answer v s := by
  fin_cases hr <;> exact ⟨_, rfl⟩

/-- Every decoded telemetry register reads under the one rule of its kind, at the address of its row
(41_host_interface.md R223). -/
theorem exec_fieldRead {r : Word × Instr} (hr : r ∈ teleRows) (s : State) :
    ∃ v, exec r.2 s = readTelemetry r.1 v s := by
  fin_cases hr <;> exact ⟨_, rfl⟩

/-- What a read of address a comes to: an answer, or a bus error at a (60_exceptions.md R405). -/
inductive ReadOutcome (a : Word) (s : State) : Out → Prop
  | answers (v : Word) : ReadOutcome a s (answer v s)
  | raises (c : BusError) : ReadOutcome a s (raiseBusError c a s)

theorem readTelemetry_outcome (a v : Word) (s : State) : ReadOutcome a s (readTelemetry a v s) := by
  unfold readTelemetry
  split
  · exact .raises .unavailable
  · split
    · exact .raises .unavailable
    · split
      · exact .raises .notReady
      · exact .answers v

theorem rdImg_outcome (a : Word) (s : State) : ReadOutcome a s (execRdImg a s) := by
  unfold execRdImg
  dsimp only
  split
  · exact .raises .unavailable
  · split
    · exact .raises .outOfRange
    · exact .answers _

theorem rdTraw_outcome (a : Word) (s : State) : ReadOutcome a s (execRdTraw a s) := by
  unfold execRdTraw
  split
  · exact .raises .unavailable
  · split
    · exact .raises .unavailable
    · exact .answers _

theorem ReadRow.outcome {a : Word} {i : Instr} (h : ReadRow a i) (s : State) : ReadOutcome a s (exec i s) := by
  cases h with
  | misaligned => exact .raises .misaligned
  | unmapped => exact .raises .unmapped
  | img => exact rdImg_outcome a s
  | traw => exact rdTraw_outcome a s
  | field r hr ha =>
    obtain ⟨v, hv⟩ := exec_fieldRead hr s
    rw [hv, ha]
    exact readTelemetry_outcome a v s
  | control r hr _ =>
    obtain ⟨v, hv⟩ := exec_controlRead hr s
    exact hv ▸ .answers v

theorem ReadOutcome.next_cases {a : Word} {s u : State} {o : Out} (h : ReadOutcome a s o) (ho : o = .next u) :
    (∃ v, u = afterAnswer v s) ∨ ∃ c, u = afterBusError (causeCode c) a s := by
  cases h with
  | answers v => exact .inl ⟨v, answer_eq_next ho⟩
  | raises c => exact .inr ⟨c, raiseBusError_eq_next ho⟩

/-- Settles O52: a read transaction is one of the read rows, and each of these answers or raises at its address. -/
theorem readSideEffects : Obligations.ReadSideEffects := by
  intro s u t d ht he
  exact ((decodeHost_read t d ht).outcome s).next_cases he

end Sys2Proof.Machine
end

section
/-! SUPPORT. The host-address and header decode as predicates over numbers, and the encoder as the decoder's inverse
(30_encoding.md R141, R147, R150, R151). -/

namespace Sys2Proof

open Laws.TableRow (readT_toNat writeT_toNat)

/-! ## Bits as numbers -/

theorem extractLsb'_eq_iff {w start len : Nat} (v : BitVec w) (b : BitVec len) :
    v.extractLsb' start len = b ↔ v.toNat / 2 ^ start % 2 ^ len = b.toNat := by
  rw [← BitVec.toNat_inj, BitVec.extractLsb'_toNat, Nat.shiftRight_eq_div_pow]

theorem odd_iff (a : Word) : a.getLsbD 0 = true ↔ a.toNat % 2 = 1 := by
  rw [BitVec.getLsbD, Nat.testBit_zero, decide_eq_true_iff]

/-! ## Regions of the host address space -/

/-- The addresses of a region as ranges (30_encoding.md R151; 10_state.md R62). -/
def InRegion (r : Region) (n : Nat) : Prop :=
  match r with
  | .misaligned => n % 2 = 1
  | .img => n % 2 = 0 ∧ 0x4000 ≤ n ∧ n ≤ 0x657E
  | .traw => n % 2 = 0 ∧ 0x0200 ≤ n ∧ n ≤ 0x02A2
  | .tfield => n % 2 = 0 ∧ 0x0100 ≤ n ∧ n ≤ 0x013C
  | .control => n % 2 = 0 ∧ n ≤ 0x0028
  | .unmapped => n % 2 = 0 ∧ (0x002A ≤ n ∧ n ≤ 0x00FE ∨ 0x013E ≤ n ∧ n ≤ 0x01FE ∨
      0x02A4 ≤ n ∧ n ≤ 0x3FFE ∨ 0x6580 ≤ n)

theorem region_inRegion (a : Word) : InRegion (region a) a.toNat := by
  have hlt := a.isLt
  simp only [region, extractLsb'_eq_iff, BitVec.lt_def, BitVec.le_def, BitVec.reduceToNat, Nat.reducePow, odd_iff]
  split_ifs <;> simp only [InRegion] <;> omega

theorem inRegion_unique {r q : Region} {n : Nat} (hr : InRegion r n) (hq : InRegion q n) : r = q := by
  cases r <;> cases q <;> simp only [InRegion, reduceCtorEq] at hr hq ⊢ <;> omega

theorem region_eq_iff (a : Word) (r : Region) : region a = r ↔ InRegion r a.toNat :=
  ⟨fun h => h ▸ region_inRegion a, inRegion_unique (region_inRegion a)⟩

/-- Settles O11: the tests of `region` on address bits are its ranges, which exclude each other. -/
theorem addressDecode : Obligations.AddressDecode := fun a =>
  ⟨region_eq_iff a .misaligned, region_eq_iff a .img, region_eq_iff a .traw, region_eq_iff a .tfield,
    region_eq_iff a .control, region_eq_iff a .unmapped⟩

theorem evenWithin_iff (lo hi a : Nat) : evenWithin lo hi a = true ↔ a % 2 = 0 ∧ lo ≤ a ∧ a ≤ hi := by
  rw [evenWithin, Bool.and_eq_true, Bool.and_eq_true, decide_eq_true_iff, decide_eq_true_iff, decide_eq_true_iff,
    and_assoc]

theorem unmappedAddr_iff (a : Word) : unmappedAddr a.toNat = true ↔ InRegion .unmapped a.toNat := by
  have hlt := a.isLt
  simp only [unmappedAddr, Bool.or_eq_true, evenWithin_iff, InRegion]
  omega

/-! ## Header classes -/

/-- The condition of a header class in a context, as the first row of 30_encoding.md R147 that applies. -/
def HeaderRule (k : HeaderClass) (c : HeaderContext) (h : BitVec 32) : Prop :=
  let discard := h.toNat / 2 ^ 28 = 0xF
  let ln := h.toNat / 2 ^ 16 % 2 ^ 8
  let image := c.line.toNat < 60 ∧ ln = c.line.toNat
  match k with
  | .discard => discard
  | .telemetry => ¬discard ∧ c.window = true
  | .image => ¬discard ∧ c.window = false ∧ image
  | .newframe => ¬discard ∧ c.window = false ∧ ¬image ∧ c.probing = true ∧ ln = 0
  | .outOfSync => ¬discard ∧ c.window = false ∧ ¬image ∧ ¬(c.probing = true ∧ ln = 0)

theorem isDiscard_iff (h : BitVec 32) : isDiscard h = true ↔ h.toNat / 2 ^ 28 = 0xF := by
  have := h.isLt
  simp only [isDiscard, decide_eq_true_iff, Config.discardNibble, extractLsb'_eq_iff, BitVec.reduceToNat]
  omega

theorem headerLine_eq_iff (h : BitVec 32) (b : Byte) : headerLine h = b ↔ h.toNat / 2 ^ 16 % 2 ^ 8 = b.toNat :=
  extractLsb'_eq_iff h b

theorem lineMatches_iff (h : BitVec 32) (l : BitVec 6) :
    lineMatches h l = true ↔ h.toNat / 2 ^ 16 % 2 ^ 8 = l.toNat := by
  rw [lineMatches, decide_eq_true_iff, headerLine_eq_iff, BitVec.toNat_setWidth_of_le (by omega)]

theorem headerClass_eq (c : HeaderContext) (h : BitVec 32) :
    headerClass c h =
      if h.toNat / 2 ^ 28 = 0xF then .discard
      else if c.window = true then .telemetry
      else if c.line.toNat < 60 ∧ h.toNat / 2 ^ 16 % 2 ^ 8 = c.line.toNat then .image
      else if c.probing = true ∧ h.toNat / 2 ^ 16 % 2 ^ 8 = 0 then .newframe
      else .outOfSync := by
  have h0 : headerLine h = 0 ↔ h.toNat / 2 ^ 16 % 2 ^ 8 = 0 := headerLine_eq_iff h 0
  simp only [headerClass, Bool.and_eq_true, decide_eq_true_iff, isDiscard_iff, lineMatches_iff, h0]
  rfl

theorem headerRule_headerClass (c : HeaderContext) (h : BitVec 32) : HeaderRule (headerClass c h) c h := by
  rw [headerClass_eq]
  split_ifs with hd hw hi hn
  · exact hd
  · exact ⟨hd, hw⟩
  · exact ⟨hd, Bool.eq_false_iff.mpr hw, hi⟩
  · exact ⟨hd, Bool.eq_false_iff.mpr hw, hi, hn⟩
  · exact ⟨hd, Bool.eq_false_iff.mpr hw, hi, hn⟩

theorem headerClass_of_headerRule {k : HeaderClass} {c : HeaderContext} {h : BitVec 32} (hr : HeaderRule k c h) :
    headerClass c h = k := by
  rw [headerClass_eq]
  cases k with
  | discard => exact if_pos hr
  | telemetry =>
    obtain ⟨hd, hw⟩ := hr
    rw [if_neg hd, if_pos hw]
  | image =>
    obtain ⟨hd, hw, hi⟩ := hr
    rw [if_neg hd, if_neg (Bool.eq_false_iff.mp hw), if_pos hi]
  | newframe =>
    obtain ⟨hd, hw, hi, hn⟩ := hr
    rw [if_neg hd, if_neg (Bool.eq_false_iff.mp hw), if_neg hi, if_pos hn]
  | outOfSync =>
    obtain ⟨hd, hw, hi, hn⟩ := hr
    rw [if_neg hd, if_neg (Bool.eq_false_iff.mp hw), if_neg hi, if_neg hn]

theorem headerClass_eq_iff (c : HeaderContext) (h : BitVec 32) (k : HeaderClass) :
    headerClass c h = k ↔ HeaderRule k c h :=
  ⟨fun he => he ▸ headerRule_headerClass c h, headerClass_of_headerRule⟩

/-- The row of a header class. -/
def headerRow (k : HeaderClass) (h : BitVec 32) : Instr :=
  match k with
  | .discard => .hdrDiscard h
  | .telemetry => .hdrTelemetry h
  | .image => .hdrImage h
  | .newframe => .hdrNewframe h
  | .outOfSync => .hdrOutOfSync h

theorem decodeHeader_eq (c : HeaderContext) (h : BitVec 32) : decodeHeader c h = headerRow (headerClass c h) h := rfl

theorem headerRow_inj {k j : HeaderClass} {h : BitVec 32} (he : headerRow k h = headerRow j h) : k = j := by
  cases k <;> cases j <;> simp [headerRow] at he ⊢

theorem decodeHeader_eq_iff (c : HeaderContext) (h : BitVec 32) (k : HeaderClass) :
    decodeHeader c h = headerRow k h ↔ HeaderRule k c h := by
  rw [← headerClass_eq_iff, decodeHeader_eq]
  exact ⟨headerRow_inj, fun he => he ▸ rfl⟩

/-- Settles O12: `headerClass` tests the rows of R147 in order, and different classes are different rows. -/
theorem headerClasses : Obligations.HeaderClasses := fun c h =>
  ⟨decodeHeader_eq_iff c h .discard, decodeHeader_eq_iff c h .telemetry, decodeHeader_eq_iff c h .image,
    decodeHeader_eq_iff c h .newframe, decodeHeader_eq_iff c h .outOfSync⟩

theorem wellFormed_headerRow (c : HeaderContext) (h : BitVec 32) (k : HeaderClass) :
    wellFormed c (headerRow k h) = true ↔ HeaderRule k c h := by
  cases k <;>
    simp only [wellFormed, headerRow, markedDiscard, Bool.and_eq_true, Bool.not_eq_true', decide_eq_true_iff,
      decide_eq_false_iff_not, Bool.and_eq_false_iff, and_assoc] <;>
    simp [HeaderRule, lineNumber, imp_iff_not_or]

/-- A header in wire order is read in its class (30_encoding.md R141). -/
theorem decode_headerBytes (c : HeaderContext) (h : BitVec 32) :
    decode (.header c) (headerBytes h) = .ok (decodeHeader c h) :=
  congrArg (fun k => Except.ok (decodeHeader c k)) (Machine.headerOf_headerBytes h)

/-- Every well-formed header row decodes to itself from its header's bytes. -/
theorem decode_headerRow {c : HeaderContext} {h : BitVec 32} (k : HeaderClass)
    (hw : wellFormed c (headerRow k h) = true) : decode (.header c) (headerBytes h) = .ok (headerRow k h) := by
  rw [decode_headerBytes, (decodeHeader_eq_iff c h k).mpr ((wellFormed_headerRow c h k).mp hw)]

/-! ## Host transactions -/

@[simp] theorem decode_hostBytes (t : BitVec 17) (d : Word) :
    decode .host (hostBytes t d) = .ok (decodeHost t d) := by
  have reserved : ((t.extractLsb' 16 1).setWidth 8).extractLsb' 1 7 = 0 := by
    have := (t.extractLsb' 16 1).isLt
    simp only [extractLsb'_eq_iff, BitVec.toNat_setWidth, BitVec.reduceToNat]
    omega
  have top : ((t.extractLsb' 16 1).setWidth 8).extractLsb' 0 1 = t.extractLsb' 16 1 := by
    rw [BitVec.extractLsb'_setWidth_of_le (by decide), BitVec.extractLsb'_eq_self]
  have ht : t.extractLsb' 16 1 ++ t.extractLsb' 8 8 ++ t.extractLsb' 0 8 = t := by
    rw [BitVec.extractLsb'_append_extractLsb'_eq_extractLsb' (by decide),
      BitVec.extractLsb'_append_extractLsb'_eq_extractLsb' (by decide), BitVec.extractLsb'_eq_self]
  have hd : d.extractLsb' 8 8 ++ d.extractLsb' 0 8 = d := by
    rw [BitVec.extractLsb'_append_extractLsb'_eq_extractLsb' (by decide), BitVec.extractLsb'_eq_self]
  simp only [hostBytes, decode, reserved, top, ht, hd, if_true]

@[simp] theorem readT_rw (a : Word) : (readT a)[16] = false := by simp [readT]

@[simp] theorem readT_addr (a : Word) : (readT a).extractLsb' 0 16 = a := by
  rw [extractLsb'_eq_iff, readT_toNat]
  have := a.isLt
  omega

@[simp] theorem writeT_rw (a : Word) : (writeT a)[16] = true := by simp [writeT]

@[simp] theorem writeT_addr (a : Word) : (writeT a).extractLsb' 0 16 = a := by
  rw [extractLsb'_eq_iff, writeT_toNat]
  have := a.isLt
  omega

/-- T is its read-write bit and its address (30_encoding.md R150). -/
theorem accessT_cases (t : BitVec 17) :
    (t.getLsbD 16 = false ∧ t = readT (t.extractLsb' 0 16)) ∨
    (t.getLsbD 16 = true ∧ t = writeT (t.extractLsb' 0 16)) := by
  have hlt := t.isLt
  have hb : t.getLsbD 16 = true ↔ 2 ^ 16 ≤ t.toNat := by
    rw [BitVec.getLsbD, Nat.testBit_eq_decide_div_mod_eq, decide_eq_true_iff]; omega
  have ha : (t.extractLsb' 0 16).toNat = t.toNat % 2 ^ 16 := by
    rw [BitVec.extractLsb'_toNat, Nat.shiftRight_zero]
  rcases Nat.lt_or_ge t.toNat (2 ^ 16) with h | h
  · refine .inl ⟨Bool.eq_false_iff.mpr (mt hb.mp (by omega)), BitVec.eq_of_toNat_eq ?_⟩
    rw [readT_toNat, ha]; omega
  · refine .inr ⟨hb.mpr h, BitVec.eq_of_toNat_eq ?_⟩
    rw [writeT_toNat, ha]; omega

/-- An access is the transaction it was read from; a read's wdata is not kept (log 12). -/
theorem accessBytes_accessOf (t : BitVec 17) (d : Word) :
    accessBytes (accessOf (t.getLsbD 16) (t.extractLsb' 0 16) d) = hostBytes t (if t.getLsbD 16 then d else 0) := by
  rcases accessT_cases t with ⟨hrw, ht⟩ | ⟨hrw, ht⟩ <;> rw [hrw]
  · exact congrArg (hostBytes · 0) ht.symm
  · exact congrArg (hostBytes · d) ht.symm

/-! ## The tables of registers -/

theorem find?_of_mem_keys {α : Type} {rows : List (Word × α)} {a : Word} (h : a ∈ rows.map Prod.fst) :
    ∃ r ∈ rows, r.1 = a ∧ rows.find? (fun r => decide (r.1 = a)) = some r := by
  obtain ⟨q, hq, hqa⟩ := List.mem_map.mp h
  have found : (rows.find? fun r => decide (r.1 = a)).isSome = true :=
    List.find?_isSome.mpr ⟨q, hq, decide_eq_true hqa⟩
  obtain ⟨r, hr⟩ := Option.isSome_iff_exists.mp found
  exact ⟨r, List.mem_of_find?_eq_some hr, by simpa using List.find?_some hr, hr⟩

theorem mem_evenAddresses {a : Word} {base n : Nat} (heven : a.toNat % 2 = base % 2) (hlo : base ≤ a.toNat)
    (hhi : a.toNat < base + 2 * n) : a ∈ (List.range n).map fun k => BitVec.ofNat 16 (base + 2 * k) := by
  refine List.mem_map.mpr ⟨(a.toNat - base) / 2, List.mem_range.mpr (by omega), ?_⟩
  rw [show base + 2 * ((a.toNat - base) / 2) = a.toNat by omega, BitVec.ofNat_toNat, BitVec.setWidth_eq]

/-- Every address of the decoded telemetry has its register (45_telemetry_decoder.md R365 to R395). -/
theorem teleRows_find? {a : Word} (h : InRegion .tfield a.toNat) :
    ∃ r ∈ teleRows, r.1 = a ∧ teleRows.find? (fun r => decide (r.1 = a)) = some r := by
  obtain ⟨heven, hlo, hhi⟩ := h
  have keys : teleRows.map Prod.fst = (List.range 31).map fun k => BitVec.ofNat 16 (0x0100 + 2 * k) := by decide
  exact find?_of_mem_keys (keys ▸ mem_evenAddresses heven hlo (by omega))

/-- Every control address has its register (10_state.md R31). -/
theorem controlRows_find? {a : Word} (h : InRegion .control a.toNat) :
    ∃ r ∈ controlRows, r.1 = a ∧ controlRows.find? (fun r => decide (r.1 = a)) = some r := by
  obtain ⟨heven, hhi⟩ := h
  have keys : controlRows.map Prod.fst = (List.range 21).map fun k => BitVec.ofNat 16 (0x0000 + 2 * k) := by decide
  exact find?_of_mem_keys (keys ▸ mem_evenAddresses (base := 0x0000) heven (Nat.zero_le _) (by omega))

/-! ## The decoder's answer to a transaction -/

/-- A well-formed instruction whose encoding is the access. -/
def IsRowOf (c : HeaderContext) (x : Access) (i : Instr) : Prop := wellFormed c i = true ∧ encode i = accessBytes x

theorem teleRows_isRowOf (c : HeaderContext) {r : Word × Instr} (hr : r ∈ teleRows) : IsRowOf c (.rd r.1) r.2 := by
  fin_cases hr <;> exact ⟨rfl, rfl⟩

theorem controlRows_isRowOf (c : HeaderContext) (d : Word) {r : Word × Instr × (Word → Instr)} (hr : r ∈ controlRows) :
    IsRowOf c (.rd r.1) r.2.1 ∧ IsRowOf c (.wr r.1 d) (r.2.2 d) := by
  fin_cases hr <;> exact ⟨⟨rfl, rfl⟩, rfl, rfl⟩

theorem misaligned_isRowOf (c : HeaderContext) {x : Access} (h : InRegion .misaligned x.addr.toNat) :
    IsRowOf c x (.accMisaligned x) := ⟨decide_eq_true h, rfl⟩

theorem unmapped_isRowOf (c : HeaderContext) {x : Access} (h : InRegion .unmapped x.addr.toNat) :
    IsRowOf c x (.accUnmapped x) := ⟨(unmappedAddr_iff x.addr).mpr h, rfl⟩

theorem accessOf_addr (rw : Bool) (a d : Word) : (accessOf rw a d).addr = a := by cases rw <;> rfl

/-- The decoder answers every transaction with a well-formed instruction that stands for its access
(30_encoding.md R151, R153). -/
theorem decodeHost_isRowOf (c : HeaderContext) (t : BitVec 17) (d : Word) :
    IsRowOf c (accessOf (t.getLsbD 16) (t.extractLsb' 0 16) d) (decodeHost t d) := by
  unfold decodeHost
  generalize t.getLsbD 16 = rw
  generalize t.extractLsb' 0 16 = a
  dsimp only
  have hin := region_inRegion a
  cases hreg : region a <;> rw [hreg] at hin
  case misaligned => exact misaligned_isRowOf c ((accessOf_addr rw a d).symm ▸ hin)
  case unmapped => exact unmapped_isRowOf c ((accessOf_addr rw a d).symm ▸ hin)
  case img | traw => cases rw <;> exact ⟨(evenWithin_iff _ _ _).mpr hin, rfl⟩
  case tfield =>
    obtain ⟨r, hr, rfl, hf⟩ := teleRows_find? hin
    cases rw with
    | true => exact ⟨(evenWithin_iff _ _ _).mpr hin, rfl⟩
    | false =>
      simp only [Bool.false_eq_true, if_false, hf]
      exact teleRows_isRowOf c hr
  case control =>
    obtain ⟨r, hr, rfl, hf⟩ := controlRows_find? hin
    obtain ⟨hread, hwrite⟩ := controlRows_isRowOf c d hr
    simp only [hf]
    cases rw with
    | true => exact hwrite
    | false => exact hread

/-- Settles O10: what the decoder answers is a well-formed row of the access, and the access is T and wdata. -/
theorem everyTransaction : Obligations.EveryTransaction := by
  intro c t d
  obtain ⟨hw, he⟩ := decodeHost_isRowOf c t d
  have hb := he.trans (accessBytes_accessOf t d)
  exact ⟨decodeHost t d, decode_hostBytes t d, hw, fun hrw => by rw [hb, hrw]; rfl, fun hrw => by rw [hb, hrw]; rfl⟩

/-! ## Decode of encode -/

/-- Settles O9: the header rows by the rule of their class, the window and raising rows by the region of their address;
the rows of a fixed E or T by computation, a write's wdata being read back from its bytes. -/
theorem decodeEncode : Obligations.DecodeEncode := by
  intro c i hw
  cases i
  case hdrDiscard h => exact decode_headerRow .discard hw
  case hdrTelemetry h => exact decode_headerRow .telemetry hw
  case hdrImage h => exact decode_headerRow .image hw
  case hdrNewframe h => exact decode_headerRow .newframe hw
  case hdrOutOfSync h => exact decode_headerRow .outOfSync hw
  case stepPreflight | stepSync | stepHeaderSyncing | stepHeaderStreaming | stepPayload | stepProbe | stepExhaust =>
    rfl
  case rdCtrl | rdMode | rdPreflight | rdStatus | rdEvents | rdIrqEn | rdSkipCount | rdProbeCount | rdLine |
    rdOutRow | rdTeleCount | rdLastHdrId | rdLastHdrCrc | rdBuserrCause | rdBuserrAddr | rdGeomW | rdGeomH |
    rdGeomBpp | rdGeomPitch | rdGeomTotal | rdGeomLpb | rdTRevMajor | rdTRevMinor | rdTUptimeLo | rdTUptimeHi |
    rdTFlags | rdTSerial0 | rdTSerial1 | rdTSerial2 | rdTSerial3 | rdTSerial4 | rdTSerial5 | rdTSerial6 |
    rdTSerial7 | rdTSwrev0 | rdTSwrev1 | rdTSwrev2 | rdTSwrev3 | rdTFramecntLo | rdTFramecntHi | rdTFrameMean |
    rdTFpaTemp | rdTFpaTempFfc | rdTHousTemp | rdTHousTempFfc | rdTRoiTop | rdTRoiLeft | rdTRoiBottom | rdTRoiRight |
    rdTClipHi | rdTClipLo | rdTLog2Ffc =>
    rfl
  case wrCtrl d | wrMode d | wrPreflight d | wrEvents d | wrIrqEn d | wrStatusRo d | wrSkipCountRo d |
    wrProbeCountRo d | wrLineRo d | wrOutRowRo d | wrTeleCountRo d | wrLastHdrIdRo d | wrLastHdrCrcRo d |
    wrBuserrCauseRo d | wrBuserrAddrRo d | wrGeomWRo d | wrGeomHRo d | wrGeomBppRo d | wrGeomPitchRo d |
    wrGeomTotalRo d | wrGeomLpbRo d =>
    exact decode_hostBytes _ d
  case rdImg a | wrImgRo a d =>
    have hr : region a = .img := (region_eq_iff a .img).mpr ((evenWithin_iff _ _ _).mp hw)
    simp [portOf, encode, decodeHost, hr]
  case rdTraw a | wrTrawRo a d =>
    have hr : region a = .traw := (region_eq_iff a .traw).mpr ((evenWithin_iff _ _ _).mp hw)
    simp [portOf, encode, decodeHost, hr]
  case wrTfieldRo a d =>
    have hr : region a = .tfield := (region_eq_iff a .tfield).mpr ((evenWithin_iff _ _ _).mp hw)
    simp [portOf, encode, decodeHost, hr]
  case accUnmapped x =>
    have hr : region x.addr = .unmapped := (region_eq_iff _ _).mpr ((unmappedAddr_iff x.addr).mp hw)
    cases x <;> rw [Access.addr] at hr <;> simp [portOf, encode, accessBytes, decodeHost, accessOf, hr]
  case accMisaligned x =>
    have hodd : InRegion .misaligned x.addr.toNat := of_decide_eq_true (p := _ % 2 = 1) hw
    have hr : region x.addr = .misaligned := (region_eq_iff _ _).mpr hodd
    cases x <;> rw [Access.addr] at hr <;> simp [portOf, encode, accessBytes, decodeHost, accessOf, hr]

/-- Settles O14: each word is a closed term, and the decoder's answer to it a computation. -/
theorem sampleWords : Obligations.SampleWords :=
  ⟨rfl, rfl, rfl, rfl, rfl, rfl, rfl, rfl, rfl, rfl, rfl, rfl, rfl⟩

end Sys2Proof
end

section
/-! SUPPORT. The header rows and the header-reading steps as one transition (30_encoding.md R142, R143, R147;
log 11). -/

namespace Sys2Proof.Machine

/-! ## The next states of a header read by cases -/

theorem afterHeaderStep_match {h : BitVec 32} {rest : List Byte} {s : State} (hm : matchesHeader h s = true) :
    afterHeaderStep h rest s = afterMatch h (afterHeaderRead h rest s) := if_pos hm

theorem afterHeaderStep_noMatch {h : BitVec 32} {rest : List Byte} {s : State} (hm : matchesHeader h s = false) :
    afterHeaderStep h rest s = { afterHeaderRead h rest s with st := .resyncing, probe := 0 } :=
  if_neg (Bool.eq_false_iff.mp hm)

theorem afterProbeStep_match {h : BitVec 32} {rest : List Byte} {s : State} (hm : matchesHeader h s = true) :
    afterProbeStep h rest s = afterMatch h (afterProbeRead h rest s) := if_pos hm

theorem afterProbeStep_newFrame {h : BitVec 32} {rest : List Byte} {s : State} (hm : matchesHeader h s = false)
    (hn : isNewframe h s = true) : afterProbeStep h rest s = afterNewFrame h (afterProbeRead h rest s) :=
  (if_neg (Bool.eq_false_iff.mp hm)).trans (if_pos hn)

theorem afterProbeStep_noMatch {h : BitVec 32} {rest : List Byte} {s : State} (hm : matchesHeader h s = false)
    (hn : isNewframe h s = false) : afterProbeStep h rest s = afterProbeRead h rest s :=
  (if_neg (Bool.eq_false_iff.mp hm)).trans (if_neg (Bool.eq_false_iff.mp hn))

theorem afterMatch_telemetry {h : BitVec 32} {s : State} (ht : isTele h s = true) :
    afterMatch h s = { s with st := .streaming, pend := if s.tele = 0 then .telStore else .telDrop } := by
  rw [afterMatch, if_pos ht]

theorem afterMatch_image {h : BitVec 32} {s : State} (ht : isTele h s = false) :
    afterMatch h s = { s with st := .streaming, pend := .img } := by
  rw [afterMatch, ht]; rfl

theorem isTele_false_of_isImage {h : BitVec 32} {s : State} (hi : isImage h s = true) : isTele h s = false := by
  obtain ⟨-, hw, -⟩ := (isImage_iff h s).mp hi
  rw [isTele, hw, Bool.and_false]

theorem afterHeaderStep_telemetry {h : BitVec 32} {rest : List Byte} {s : State} (ht : isTele h s = true) :
    afterHeaderStep h rest s = { afterHeaderRead h rest s with
      st := .streaming
      pend := if s.tele = 0 then .telStore else .telDrop } :=
  (afterHeaderStep_match ((matchesHeader_iff h s).mpr (.inl ht))).trans
    (afterMatch_telemetry (s := afterHeaderRead h rest s) ht)

theorem afterHeaderStep_image {h : BitVec 32} {rest : List Byte} {s : State} (hi : isImage h s = true) :
    afterHeaderStep h rest s = { afterHeaderRead h rest s with st := .streaming, pend := .img } :=
  (afterHeaderStep_match ((matchesHeader_iff h s).mpr (.inr hi))).trans
    (afterMatch_image (s := afterHeaderRead h rest s) (isTele_false_of_isImage hi))

theorem afterProbeStep_telemetry {h : BitVec 32} {rest : List Byte} {s : State} (ht : isTele h s = true) :
    afterProbeStep h rest s = { afterProbeRead h rest s with
      st := .streaming
      pend := if s.tele = 0 then .telStore else .telDrop } :=
  (afterProbeStep_match ((matchesHeader_iff h s).mpr (.inl ht))).trans
    (afterMatch_telemetry (s := afterProbeRead h rest s) ht)

theorem afterProbeStep_image {h : BitVec 32} {rest : List Byte} {s : State} (hi : isImage h s = true) :
    afterProbeStep h rest s = { afterProbeRead h rest s with st := .streaming, pend := .img } :=
  (afterProbeStep_match ((matchesHeader_iff h s).mpr (.inr hi))).trans
    (afterMatch_image (s := afterProbeRead h rest s) (isTele_false_of_isImage hi))

/-! ## Classes against the predicates -/

theorem matchesHeader_false_of_isDiscard {h : BitVec 32} {s : State} (hd : isDiscard h = true) :
    matchesHeader h s = false ∧ isNewframe h s = false := by
  simp [matchesHeader, isTele, isImage, isNewframe, hd]

theorem headerClass_of_isDiscard {h : BitVec 32} (c : HeaderContext) (hd : isDiscard h = true) :
    headerClass c h = .discard := if_pos hd

theorem headerClass_of_isNewframe {h : BitVec 32} {s : State} (hs : s.st = .resyncing) (hn : isNewframe h s = true) :
    headerClass (headerContext s) h = .newframe := by
  rcases headerClass_cases h s with ⟨-, -, -, hq⟩ | ⟨-, -, hm⟩ | ⟨-, -, -, hm⟩ | ⟨hc, -⟩ | ⟨-, -, -, hq⟩
  · rw [hn] at hq; cases hq
  · rw [((isNewframe_iff h s).mp hn).2.1] at hm; cases hm
  · rw [((isNewframe_iff h s).mp hn).2.1] at hm; cases hm
  · exact hc
  · rw [hq hs] at hn; cases hn

/-- A header that is no discard and matches nothing is out of sync, but for a probe that finds a new frame. -/
theorem headerClass_of_noMatch {h : BitVec 32} {s : State} (hd : isDiscard h = false)
    (hm : matchesHeader h s = false) (hn : s.st = .resyncing → isNewframe h s = false) :
    headerClass (headerContext s) h = .outOfSync := by
  rcases headerClass_cases h s with ⟨-, hq, -⟩ | ⟨-, -, hq⟩ | ⟨-, -, -, hq⟩ | ⟨-, hs, -, hq⟩ | ⟨hc, -⟩
  · rw [hd] at hq; cases hq
  · rw [hm] at hq; cases hq
  · rw [hm] at hq; cases hq
  · rw [hn hs] at hq; cases hq
  · exact hc

/-! ## A header that is due -/

theorem headerStands_of_append {h : BitVec 32} {rest : List Byte} {s : State} (hs : s.stream = headerBytes h ++ rest) :
    s.stream.drop 4 = rest ∧ headerStands h s = true := by
  have hd : s.stream.drop 4 = rest := by rw [hs]; rfl
  exact ⟨hd, (headerStands_iff h s).mpr (hd ▸ hs)⟩

theorem headerDue_of_step {s : State} (hd : HeaderDue s) : headerDue s = true ∧ s.st ≠ .resyncing := by
  rcases hd with ⟨hs, hy⟩ | ⟨hs, hp⟩ <;> simp [headerDue, *]

theorem headerDue_of_probe {s : State} (hs : s.st = .resyncing) (hp : s.probe.toNat < 120) : headerDue s = true := by
  rw [headerDue, hs]
  exact decide_eq_true hp

/-- The row of the class of a header does what the HEADER step does with it. -/
theorem exec_headerRow_step {k : HeaderClass} {h : BitVec 32} {rest : List Byte} {s : State}
    (hs : s.stream = headerBytes h ++ rest) (hd : HeaderDue s) (hk : headerClass (headerContext s) h = k) :
    exec (headerRow k h) s = .next (afterHeaderStep h rest s) := by
  obtain ⟨hdrop, hstands⟩ := headerStands_of_append hs
  obtain ⟨hdue, hst⟩ := headerDue_of_step hd
  have he := execHdr_class h s hdue hstands
  rwa [decodeHeader_eq, hk, if_neg hst, hdrop] at he

/-- The row of the class of a header does what the PROBE step does with it. -/
theorem exec_headerRow_probe {k : HeaderClass} {h : BitVec 32} {rest : List Byte} {s : State}
    (hs : s.stream = headerBytes h ++ rest) (hst : s.st = .resyncing) (hp : s.probe.toNat < 120)
    (hk : headerClass (headerContext s) h = k) : exec (headerRow k h) s = .next (afterProbeStep h rest s) := by
  obtain ⟨hdrop, hstands⟩ := headerStands_of_append hs
  have he := execHdr_class h s (headerDue_of_probe hst hp) hstands
  rwa [decodeHeader_eq, hk, if_pos hst, hdrop] at he

/-- Settles O39: the row of a header's class does what the HEADER step does with it, and the class fixes which case of
that step it is. -/
theorem headerRowsStreaming : Obligations.HeaderRowsStreaming := by
  intro s h rest hs hd
  have row := fun k => exec_headerRow_step (k := k) hs hd
  refine ⟨fun hx => ?_, fun ht => ?_, fun hi => ?_, fun hx hm => ?_⟩
  · rw [← afterHeaderStep_noMatch (matchesHeader_false_of_isDiscard hx).1]
    exact row .discard (headerClass_of_isDiscard _ hx)
  · rw [← afterHeaderStep_telemetry ht]
    exact row .telemetry ((headerClass_telemetry_iff h s).mpr ht)
  · rw [← afterHeaderStep_image hi]
    exact row .image ((headerClass_image_iff h s).mpr hi)
  · rw [← afterHeaderStep_noMatch hm]
    exact row .outOfSync (headerClass_of_noMatch hx hm fun hr => absurd hr (headerDue_of_step hd).2)

/-- Settles O40: the row of a header's class does what the PROBE step does with it, and the class fixes which case of
that step it is. -/
theorem headerRowsProbing : Obligations.HeaderRowsProbing := by
  intro s h rest hs hst hp
  have row := fun k => exec_headerRow_probe (k := k) hs hst hp
  refine ⟨fun hx => ?_, fun ht => ?_, fun hi => ?_, fun hn => ?_, fun hx hm hn => ?_⟩
  · obtain ⟨hm, hn⟩ := matchesHeader_false_of_isDiscard (s := s) hx
    rw [← afterProbeStep_noMatch hm hn]
    exact row .discard (headerClass_of_isDiscard _ hx)
  · rw [← afterProbeStep_telemetry ht]
    exact row .telemetry ((headerClass_telemetry_iff h s).mpr ht)
  · rw [← afterProbeStep_image hi]
    exact row .image ((headerClass_image_iff h s).mpr hi)
  · rw [← afterProbeStep_newFrame ((isNewframe_iff h s).mp hn).2.1 hn]
    exact row .newframe (headerClass_of_isNewframe hst hn)
  · rw [← afterProbeStep_noMatch hm hn]
    exact row .outOfSync (headerClass_of_noMatch hx hm fun _ => hn)

/-! ## The engine step that is due -/

theorem exec_headerStepOf {h : BitVec 32} {rest : List Byte} {s : State} (hs : s.stream = headerBytes h ++ rest)
    (hd : HeaderDue s) : exec (headerStepOf s) s = .next (afterHeaderStep h rest s) := by
  rw [← headerStep_next h rest s hs]
  rcases hd with hd | hd
  · rw [headerStepOf, if_pos hd.1]
    exact if_pos hd
  · rw [headerStepOf, if_neg (by rw [hd.1]; decide)]
    exact if_pos hd

/-- Where a HEADER step is due, the select vector enables it (42_synchronizer.md R260). -/
theorem decodeStep_headerDue {s : State} (hd : HeaderDue s) : decodeStep (selectVector s) = .ok (headerStepOf s) := by
  unfold selectVector
  generalize decide (s.probe.toNat = Config.probeLimit) = full
  rcases hd with ⟨hs, hy⟩ | ⟨hs, hp⟩
  · generalize decide (s.pend ≠ .none) = owed
    rw [headerStepOf, hs, hy]
    cases owed <;> cases full <;> rfl
  · rw [headerStepOf, hs, hp]
    cases s.syncDone <;> cases full <;> rfl

/-- Where a PROBE step is due, the select vector enables it (42_synchronizer.md R260). -/
theorem decodeStep_probeDue {s : State} (hs : s.st = .resyncing) (hp : s.probe.toNat < 120) :
    decodeStep (selectVector s) = .ok .stepProbe := by
  have hfull : decide (s.probe.toNat = Config.probeLimit) = false := decide_eq_false (Nat.ne_of_lt hp)
  unfold selectVector
  rw [hs, hfull]
  generalize decide (s.pend ≠ .none) = owed
  cases s.syncDone <;> cases owed <;> rfl

/-- Settles O41: both sides are the HEADER or the PROBE step's next state. -/
theorem headerRowsAgree : Obligations.HeaderRowsAgree := by
  intro s h rest i hs hdue hi
  rw [decodeHeader_eq]
  rcases headerDue_cases s hdue with hd | ⟨hst, hp⟩
  · obtain rfl := Except.ok.inj ((decodeStep_headerDue hd).symm.trans hi)
    rw [exec_headerRow_step hs hd rfl, exec_headerStepOf hs hd]
  · obtain rfl := Except.ok.inj ((decodeStep_probeDue hst hp).symm.trans hi)
    rw [exec_headerRow_probe hs hst hp rfl]
    exact (stepProbe_next h rest s hst hp hs).symm

/-! ## The CRC word and header bits [27:24] -/

/-- Two headers agree on the bits a header-reading step looks at (30_encoding.md R142, R143). -/
structure SameClassBits (h k : BitVec 32) : Prop where
  discard : isDiscard h = isDiscard k
  line : headerLine h = headerLine k

theorem sameClassBits_of_extract {h k : BitVec 32} (hd : h.extractLsb' 28 4 = k.extractLsb' 28 4)
    (hl : h.extractLsb' 16 8 = k.extractLsb' 16 8) : SameClassBits h k :=
  ⟨by rw [isDiscard, isDiscard, hd], hl⟩

section
variable {h k : BitVec 32} (e : SameClassBits h k)
include e

theorem SameClassBits.isTele (s : State) : isTele h s = isTele k s := by
  rw [Machine.isTele, Machine.isTele, e.discard]

theorem SameClassBits.matchesHeader (s : State) : matchesHeader h s = matchesHeader k s := by
  rw [Machine.matchesHeader, Machine.matchesHeader, e.isTele, isImage, isImage, lineMatches, lineMatches, e.discard,
    e.line]

theorem SameClassBits.isNewframe (s : State) : isNewframe h s = isNewframe k s := by
  rw [Machine.isNewframe, Machine.isNewframe, e.discard, e.matchesHeader, e.line]

theorem SameClassBits.afterMatch (s : State) : afterMatch k { s with hdr := k } = { afterMatch h s with hdr := k } := by
  have ht : Machine.isTele k { s with hdr := k } = Machine.isTele h s := (e.isTele s).symm
  rw [Machine.afterMatch, ht]
  rfl

theorem SameClassBits.afterNewFrame (s : State) :
    afterNewFrame k { s with hdr := k } = { afterNewFrame h s with hdr := k } := by
  rcases afterNewFrame_cases h s with ⟨hk, he⟩ | ⟨hk, he⟩ <;> rw [he, Machine.afterNewFrame]
  · exact if_pos hk
  · exact (if_neg hk).trans (e.afterMatch { s with skip := s.skip + 1, line := 0, outRow := 0, tele := 0 })

/-- The HEADER step's next state but for the header register. -/
theorem SameClassBits.afterHeaderStep (rest : List Byte) (s : State) :
    afterHeaderStep k rest s = { afterHeaderStep h rest s with hdr := k } := by
  cases hm : Machine.matchesHeader h s
  · rw [afterHeaderStep_noMatch hm, afterHeaderStep_noMatch (e.matchesHeader s ▸ hm)]
    rfl
  · rw [afterHeaderStep_match hm, afterHeaderStep_match (e.matchesHeader s ▸ hm)]
    exact e.afterMatch (afterHeaderRead h rest s)

/-- The PROBE step's next state but for the header register. -/
theorem SameClassBits.afterProbeStep (rest : List Byte) (s : State) :
    afterProbeStep k rest s = { afterProbeStep h rest s with hdr := k } := by
  cases hm : Machine.matchesHeader h s
  · have hm' := e.matchesHeader s ▸ hm
    cases hn : Machine.isNewframe h s
    · rw [afterProbeStep_noMatch hm hn, afterProbeStep_noMatch hm' (e.isNewframe s ▸ hn)]
      rfl
    · rw [afterProbeStep_newFrame hm hn, afterProbeStep_newFrame hm' (e.isNewframe s ▸ hn)]
      exact e.afterNewFrame (afterProbeRead h rest s)
  · rw [afterProbeStep_match hm, afterProbeStep_match (e.matchesHeader s ▸ hm)]
    exact e.afterMatch (afterProbeRead h rest s)

end

/-- What a header-reading step does to a state does not depend on its stream but by the header read: one of the two
next states, or it waits. -/
inductive HeaderReader (i : Instr) (s : State) : Prop
  | header (he : ∀ h rest, exec i { s with stream := headerBytes h ++ rest } = .next (afterHeaderStep h rest s))
  | probe (he : ∀ h rest, exec i { s with stream := headerBytes h ++ rest } = .next (afterProbeStep h rest s))
  | waits (he : ∀ stream, exec i { s with stream := stream } = .next { s with stream := stream })

theorem headerReader_of_mem {i : Instr} (hi : i ∈ [Instr.stepHeaderSyncing, .stepHeaderStreaming, .stepProbe])
    (s : State) : HeaderReader i s := by
  simp only [List.mem_cons, List.not_mem_nil, or_false] at hi
  rcases hi with rfl | rfl | rfl
  · by_cases hd : s.st = .syncing ∧ s.syncDone = true
    · exact .header fun h rest => (if_pos hd).trans (headerStep_next h rest _ rfl)
    · exact .waits fun _ => if_neg hd
  · by_cases hd : s.st = .streaming ∧ s.pend = .none
    · exact .header fun h rest => (if_pos hd).trans (headerStep_next h rest _ rfl)
    · exact .waits fun _ => if_neg hd
  · by_cases hd : s.st = .resyncing ∧ s.probe.toNat < 120
    · exact .probe fun h rest => stepProbe_next h rest _ hd.1 hd.2 rfl
    · exact .waits fun _ => if_neg hd

/-- Settles O43: the bits a header-reading step looks at fix its next state but for the header register; a step that
waits has not left `rest` in the stream. -/
theorem crcNeverMatters : Obligations.CrcNeverMatters := by
  intro s h k rest hd hl i hi t he hrest
  have e := sameClassBits_of_extract hd hl
  rcases headerReader_of_mem hi s with hx | hx | hx
  · obtain rfl := Host.Outcome.next.inj ((hx h rest).symm.trans he)
    exact ⟨k, by rw [hx, e.afterHeaderStep]⟩
  · obtain rfl := Host.Outcome.next.inj ((hx h rest).symm.trans he)
    exact ⟨k, by rw [hx, e.afterProbeStep]⟩
  · obtain rfl := Host.Outcome.next.inj ((hx _).symm.trans he)
    have hlen := congrArg List.length hrest
    simp [headerBytes_length] at hlen

end Sys2Proof.Machine
end

section
/-! SUPPORT. The rows of the host interface (41_host_interface.md R200 to R233): how an address decodes, what answering
and refusing come to, and each row's next state. -/

namespace Sys2Proof.Machine

/-! ## Decoding by region -/

theorem decodeHost_misaligned {a : Word} (h : InRegion .misaligned a.toNat) (d : Word) :
    decodeHost (readT a) d = .accMisaligned (.rd a) ∧ decodeHost (writeT a) d = .accMisaligned (.wr a d) := by
  simp [decodeHost, accessOf, (region_eq_iff a .misaligned).mpr h]

theorem decodeHost_unmapped {a : Word} (h : InRegion .unmapped a.toNat) (d : Word) :
    decodeHost (readT a) d = .accUnmapped (.rd a) ∧ decodeHost (writeT a) d = .accUnmapped (.wr a d) := by
  simp [decodeHost, accessOf, (region_eq_iff a .unmapped).mpr h]

theorem decodeHost_img {a : Word} (h : InRegion .img a.toNat) (d : Word) :
    decodeHost (readT a) d = .rdImg a ∧ decodeHost (writeT a) d = .wrImgRo a d := by
  simp [decodeHost, (region_eq_iff a .img).mpr h]

theorem decodeHost_traw {a : Word} (h : InRegion .traw a.toNat) (d : Word) :
    decodeHost (readT a) d = .rdTraw a ∧ decodeHost (writeT a) d = .wrTrawRo a d := by
  simp [decodeHost, (region_eq_iff a .traw).mpr h]

theorem decodeHost_tfield_write {a : Word} (h : InRegion .tfield a.toNat) (d : Word) :
    decodeHost (writeT a) d = .wrTfieldRo a d := by
  simp [decodeHost, (region_eq_iff a .tfield).mpr h]

/-! ## Answers, bus errors and the busy test -/

theorem answer_eq (v : Word) (s : State) : answer v s = .next (afterAnswer v s) := rfl

theorem accept_eq (s : State) : accept s = .next (afterAnswer 0 s) := rfl

/-- The block's one exception entry has the effects of 60_exceptions.md R405. -/
theorem raiseBusError_eq_afterBusError (c : BusError) (a : Word) (s : State) :
    raiseBusError c a s = .next (afterBusError (causeCode c) a s) := rfl

theorem ite_busy {α : Type} {s : State} (hs : s.st ≠ .idle) (x y : α) : (if busy s then x else y) = x :=
  if_pos ((busy_iff s).mpr hs)

theorem ite_idle {α : Type} {s : State} (hs : s.st = .idle) (x y : α) : (if busy s then x else y) = y :=
  if_neg fun hb => (busy_iff s).mp hb hs

/-! ## Reads of control registers -/

/-- Settles O15: each T is a constant, so its row is a computation, and the meaning of each row is an answer. -/
theorem controlReads : Obligations.ControlReads := fun s _ =>
  ⟨⟨rfl, answer_eq 0x0000 s⟩, ⟨rfl, answer_eq _ s⟩, ⟨rfl, answer_eq _ s⟩, ⟨rfl, answer_eq _ s⟩, ⟨rfl, answer_eq _ s⟩,
    ⟨rfl, answer_eq _ s⟩, ⟨rfl, answer_eq s.busErrAddr s⟩⟩

theorem headerId_eq (h : BitVec 32) : headerId h = h.extractLsb' 16 16 :=
  BitVec.extractLsb'_append_extractLsb'_eq_extractLsb' (by decide)

theorem headerCrc_eq (h : BitVec 32) : headerCrc h = h.extractLsb' 0 16 :=
  BitVec.extractLsb'_append_extractLsb'_eq_extractLsb' (by decide)

/-- Settles O17: the two header registers join bytes that stand side by side in H. -/
theorem observationReads : Obligations.ObservationReads := by
  intro s d
  refine ⟨⟨rfl, answer_eq _ s⟩, ⟨rfl, answer_eq _ s⟩, ⟨rfl, answer_eq _ s⟩, ⟨rfl, answer_eq _ s⟩,
    ⟨rfl, answer_eq _ s⟩, ⟨rfl, ?_⟩, ⟨rfl, ?_⟩⟩
  · rw [← headerId_eq]
    exact answer_eq (headerId s.hdr) s
  · rw [← headerCrc_eq]
    exact answer_eq (headerCrc s.hdr) s

theorem total_bounds (m : StorageMode) : total m ≤ 9600 ∧ total m % 2 = 0 := by cases m <;> decide

/-- Settles O18: the reads are answers from constant addresses, and the table and the bounds range over six modes. -/
theorem geometryReads : Obligations.GeometryReads :=
  ⟨fun s _ => ⟨⟨rfl, answer_eq _ s⟩, ⟨rfl, answer_eq _ s⟩, ⟨rfl, answer_eq _ s⟩, ⟨rfl, answer_eq _ s⟩,
    ⟨rfl, answer_eq _ s⟩, ⟨rfl, answer_eq _ s⟩⟩, rfl, total_bounds⟩

/-! ## STATUS -/

theorem teleReady_iff (s : State) : teleReady s = true ↔ s.tbufAlloc = true ∧ readByte .tel s 0 ≠ 0x0F := by
  rw [teleReady, sentinel, Bool.and_eq_true, Bool.not_eq_true', decide_eq_false_iff_not]
  exact Iff.rfl

theorem bit_getLsbD_zero (b : Bool) : (bit b).getLsbD 0 = b := by simp [bit]

/-- The fields of STATUS of more than one bit (10_state.md R35). -/
theorem statusWord_fields (s : State) :
    (statusWord s).extractLsb' 0 3 = stateCode s.st ∧ (statusWord s).extractLsb' 4 3 = resultCode s.result ∧
      (statusWord s).extractLsb' 10 6 = 0 := by
  simp only [statusWord, BitVec.extractLsb'_append_eq_right, BitVec.extractLsb'_append_eq_of_le, Nat.reduceLeDiff,
    Nat.reduceSub, BitVec.extractLsb'_eq_self, BitVec.ofNat_eq_ofNat, and_self]

/-- The flags of STATUS (10_state.md R35). -/
theorem statusWord_flags (s : State) :
    (statusWord s).getLsbD 3 = busy s ∧ (statusWord s).getLsbD 7 = s.frameValid ∧
      (statusWord s).getLsbD 8 = s.tbufAlloc ∧ (statusWord s).getLsbD 9 = teleReady s := by
  simp only [statusWord, BitVec.getLsbD_append, Nat.reduceSub, Nat.reduceLT, if_false, if_true, bit_getLsbD_zero,
    and_self]

/-- Settles O16: STATUS is a concatenation, and each field of R207 is one of its parts. -/
theorem statusRead : Obligations.StatusRead := by
  intro s d
  obtain ⟨hstate, hresult, hreserved⟩ := statusWord_fields s
  obtain ⟨hbusy, hvalid, halloc, hready⟩ := statusWord_flags s
  refine ⟨rfl, statusWord s, answer_eq _ s, ?_, ?_, ?_, hvalid, halloc, ?_, hreserved⟩
  · rw [hstate]
    cases s.st <;> rfl
  · rw [hbusy, busy_iff]
  · rw [hresult]
    cases s.result <;> rfl
  · rw [hready, teleReady_iff]

/-! ## Writes of control registers -/

/-- Settles O19: by START and the busy test, the three ends of `execWrCtrl`. -/
theorem ctrlWrite : Obligations.CtrlWrite := by
  intro s d
  refine ⟨rfl, fun hd => ?_, fun hd hs => ?_, fun hd hs => ?_⟩ <;> rw [exec, execWrCtrl]
  · rw [if_pos (Bool.eq_false_iff.mp hd)]
    exact accept_eq s
  · rw [if_neg (not_not_intro hd), ite_idle hs]
    exact accept_eq (startCapture s)
  · rw [if_neg (not_not_intro hd), ite_busy hs]
    exact accept_eq (setEvent eventStartIgnored s)

theorem modeOf_modeCode (m : StorageMode) : modeOf (modeCode m) = some m := by cases m <;> rfl

/-- The values 6 and 7 stand for no mode (10_state.md R33). -/
theorem modeOf_eq_none : ∀ b : BitVec 3, 5 < b.toNat → modeOf b = none := by decide

/-- Settles O20: the busy test first, then the mode that the three bits stand for; a legal mode is read back from its
code, and the values above 5 have none. -/
theorem configurationWrites : Obligations.ConfigurationWrites := by
  intro s d
  refine ⟨rfl, rfl, fun m hs hm => ?_, fun hs hd => ?_, fun hs => ?_, fun hs => ⟨?_, ?_⟩⟩ <;> rw [exec]
  · have hv : (s.frameValid && decide (m = s.mode)) = if m = s.mode then s.frameValid else false := by
      split_ifs with he
      · rw [decide_eq_true he, Bool.and_true]
      · rw [decide_eq_false he, Bool.and_false]
    rw [execWrMode, ite_idle hs, hm, modeOf_modeCode, ← hv]
    exact accept_eq _
  · have hcode : 5 < (d.extractLsb' 0 3).toNat := by rwa [BitVec.extractLsb'_toNat, Nat.shiftRight_zero]
    rw [execWrMode, ite_idle hs, modeOf_eq_none _ hcode]
    exact raiseBusError_eq_afterBusError .illegalValue 0x0002 s
  · rw [execWrPreflight, ite_idle hs]
    exact accept_eq _
  · rw [execWrMode, ite_busy hs]
    exact raiseBusError_eq_afterBusError .locked 0x0002 s
  · rw [execWrPreflight, ite_busy hs]
    exact raiseBusError_eq_afterBusError .locked 0x0004 s

/-- Settles O21: an acknowledgement keeps the events whose mask bit is 0. -/
theorem eventAndEnableWrites : Obligations.EventAndEnableWrites := by
  intro s d
  refine ⟨⟨rfl, s.events &&& ~~~d.extractLsb' 0 3, accept_eq (acknowledge (d.extractLsb' 0 3) s), fun k hk => ?_⟩,
    rfl, accept_eq { s with irqEn := d.extractLsb' 0 3 }⟩
  simp [hk]

/-! ## Accesses that always raise -/

/-- Settles O23: a register row decodes from its constant address, the other rows by the region of theirs; every one of
them is the same bus error. -/
theorem readOnlyWrites : Obligations.ReadOnlyWrites := by
  intro s d
  refine ⟨fun r hr => ?_, fun a heven => ⟨fun hlo hhi => ⟨?_, ?_⟩, fun hlo hhi => ⟨?_, ?_⟩, fun hlo hhi => ⟨?_, ?_⟩⟩⟩
  · fin_cases hr <;> dsimp only <;> exact ⟨rfl, raiseBusError_eq_afterBusError .readOnly _ s⟩
  · exact (decodeHost_img ⟨heven, hlo, hhi⟩ d).2
  · exact raiseBusError_eq_afterBusError .readOnly a s
  · exact (decodeHost_traw ⟨heven, hlo, hhi⟩ d).2
  · exact raiseBusError_eq_afterBusError .readOnly a s
  · exact decodeHost_tfield_write ⟨heven, hlo, hhi⟩ d
  · exact raiseBusError_eq_afterBusError .readOnly a s

/-- Settles O24: the address decides the region, whatever the direction of the access, and both rows raise. -/
theorem badAddresses : Obligations.BadAddresses := by
  intro s a d
  refine ⟨fun hodd => ?_, fun heven hrange => ?_⟩
  · obtain ⟨hread, hwrite⟩ := decodeHost_misaligned hodd d
    exact ⟨⟨hread, raiseBusError_eq_afterBusError .misaligned a s⟩,
      ⟨hwrite, raiseBusError_eq_afterBusError .misaligned a s⟩⟩
  · obtain ⟨hread, hwrite⟩ := decodeHost_unmapped ⟨heven, hrange⟩ d
    exact ⟨⟨hread, raiseBusError_eq_afterBusError .unmapped a s⟩,
      ⟨hwrite, raiseBusError_eq_afterBusError .unmapped a s⟩⟩

/-! ## Reads of the windows -/

theorem windowOffset_eq {base a : Word} (h : base.toNat ≤ a.toNat) : windowOffset base a = a.toNat - base.toNat :=
  BitVec.toNat_sub_of_le h

/-- Settles O26: the checks of R221 in their order, over the offset as a difference of numbers. -/
theorem imgRead : Obligations.ImgRead := by
  intro s a d heven hlo hhi
  have ho : windowOffset 0x4000 a = a.toNat - 0x4000 := windowOffset_eq hlo
  refine ⟨(decodeHost_img ⟨heven, hlo, hhi⟩ d).1, fun hs => ?_, fun hs ht => ?_, fun hs ht => ?_⟩ <;>
    simp only [exec, execRdImg, ho]
  · rw [ite_busy hs]
    exact raiseBusError_eq_afterBusError .unavailable a s
  · rw [ite_idle hs, if_pos ht]
    exact raiseBusError_eq_afterBusError .outOfRange a s
  · rw [ite_idle hs, if_neg (Nat.not_le_of_lt ht)]
    exact answer_eq _ s

/-- Settles O27: the checks of R222 in their order; the sentinel is not one of them. -/
theorem trawRead : Obligations.TrawRead := by
  intro s a d heven hlo hhi
  have ho : windowOffset 0x0200 a = a.toNat - 0x0200 := windowOffset_eq hlo
  refine ⟨(decodeHost_traw ⟨heven, hlo, hhi⟩ d).1, fun hs => ?_, fun hs ht => ?_, fun hs ht => ?_⟩ <;>
    rw [exec, execRdTraw, ho]
  · rw [ite_busy hs]
    exact raiseBusError_eq_afterBusError .unavailable a s
  · rw [ite_idle hs, if_pos (Bool.eq_false_iff.mp ht)]
    exact raiseBusError_eq_afterBusError .unavailable a s
  · rw [ite_idle hs, if_neg (not_not_intro ht)]
    exact answer_eq _ s

/-- Settles O28: every decoded register reads under `readTelemetry`, whose checks are those of R223. -/
theorem telemetryReadErrors : Obligations.TelemetryReadErrors := by
  intro s r hr
  obtain ⟨v, hv⟩ := exec_fieldRead hr s
  rw [hv, readTelemetry]
  refine ⟨fun hs => ?_, fun hs ht => ?_, fun hs ht hq => ?_⟩
  · rw [ite_busy hs]
    exact raiseBusError_eq_afterBusError .unavailable r.1 s
  · rw [ite_idle hs, if_pos (Bool.eq_false_iff.mp ht)]
    exact raiseBusError_eq_afterBusError .unavailable r.1 s
  · have sentinelStands : sentinel s = true := decide_eq_true hq
    rw [ite_idle hs, if_neg (not_not_intro ht), if_pos sentinelStands]
    exact raiseBusError_eq_afterBusError .notReady r.1 s

end Sys2Proof.Machine
end

section
/-! SUPPORT. Single engine steps (42_synchronizer.md R260 to R285): the step the select vector enables, the
predicates over a header as numbers, each step's next state, and where a step or a header row waits. -/

namespace Sys2Proof.Machine

/-! ## The select vector -/

/-- The table of R260 over what the select vector tells: the engine state, sync_done, whether a payload is owed,
whether the probes are used up. -/
def stepOf (st : EngineState) (synced owed full : Bool) : Except DecodeError Instr :=
  match st with
  | .idle => .error .noStepEnabled
  | .preflight => .ok .stepPreflight
  | .syncing => .ok (if synced then .stepHeaderSyncing else .stepSync)
  | .streaming => .ok (if owed then .stepPayload else .stepHeaderStreaming)
  | .resyncing => .ok (if full then .stepExhaust else .stepProbe)

/-- The rows of the step decoder are the table of R260. -/
theorem decodeStep_selectVector (s : State) :
    decodeStep (selectVector s) = stepOf s.st s.syncDone (decide (s.pend ≠ .none)) (decide (s.probe.toNat = 120)) := by
  unfold selectVector
  rw [Config.probeLimit]
  generalize decide (s.pend ≠ .none) = owed
  generalize decide (s.probe.toNat = 120) = full
  cases s.st <;> cases s.syncDone <;> cases owed <;> cases full <;> rfl

theorem probe_toNat_eq_iff (p : BitVec 7) : p.toNat = 120 ↔ p = 120 := by bv_omega

/-- Settles O8: in each engine state, by the one register its rows of the table test. -/
theorem enabledStep : Obligations.EnabledStep := by
  intro s i
  rw [decodeStep_selectVector]
  simp only [probe_toNat_eq_iff]
  cases hs : s.st with
  | idle => simp [stepOf]
  | preflight => simp [stepOf, @eq_comm _ i]
  | syncing => cases s.syncDone <;> simp [stepOf, @eq_comm _ i]
  | streaming => by_cases hp : s.pend = .none <;> simp [stepOf, hp, @eq_comm _ i]
  | resyncing => by_cases hp : s.probe = 120#7 <;> simp [stepOf, hp, @eq_comm _ i]

/-! ## The predicates over a header as numbers -/

theorem isDiscard_false_iff (h : BitVec 32) : isDiscard h = false ↔ ¬h.toNat / 2 ^ 28 = 0xF := by
  rw [← isDiscard_iff, Bool.not_eq_true]

/-- The window over the raw PREFLIGHT bits TELE_EN and TELE_LOC (42_synchronizer.md R266). -/
theorem inWindow_iff_bits (s : State) :
    inWindow s = true ↔ s.preflight.getLsbD 1 = true ∧ s.tele.toNat < 3 ∧
      s.line.toNat = if s.preflight.getLsbD 2 then 60 else 0 := inWindow_iff s

theorem isImage_iff_line (h : BitVec 32) (s : State) :
    isImage h s = true ↔ isDiscard h = false ∧ inWindow s = false ∧ s.line.toNat < 60 ∧
      h.toNat / 2 ^ 16 % 2 ^ 8 = s.line.toNat := by
  rw [isImage_iff, ← lineMatches_iff, lineMatches, decide_eq_true_iff]

/-- Settles O13: each predicate is a conjunction of tests, and each test is one over numbers. -/
theorem headerPredicates : Obligations.HeaderPredicates := by
  intro h s
  refine ⟨?_, ?_, matchesHeader_iff h s, ?_⟩
  · rw [isTele_iff, isDiscard_false_iff, inWindow_iff_bits]
  · rw [isImage_iff_line, isDiscard_false_iff, ← Bool.not_eq_true, inWindow_iff_bits]
  · rw [isNewframe_iff, isDiscard_false_iff, headerLine_eq_iff]
    rfl

/-! ## The capture's start -/

/-- Settles O33: without BOOTED the step is the end of the capture. -/
theorem notBooted : Obligations.NotBooted := by
  intro s hs hb
  have hb : booted s = false := hb
  rw [exec, execStepPreflight, if_pos hs, hb]
  rfl

/-- A PREFLIGHT step of a booted camera, given what TelemetryBufferMatch answers (42_synchronizer.md R261). -/
theorem stepPreflight_booted {s u : State} (hs : s.st = .preflight) (hb : booted s = true)
    (hu : telemetryBufferMatch s = .next u) : exec .stepPreflight s = .next (enterSyncing u) := by
  rw [exec, execStepPreflight, if_pos hs, if_pos hb, hu, andThen_next]

/-- A freshly allocated telemetry buffer reads the sentinel and 163 zeros (42_synchronizer.md R263). -/
theorem readByte_allocated {s t : State} (ht : t.tel = (s.tel.write 0 [0x0F]).write 1 (zeroBytes 163))
    (he : t.epoch = s.epoch) :
    readByte .tel t 0 = 0x0F ∧ (∀ a, 1 ≤ a → a < 164 → readByte .tel t a = 0) ∧
      ∀ a, 164 ≤ a → readByte .tel t a = readByte .tel s a := by
  refine ⟨?_, fun a hlo hhi => ?_, fun a ha => ?_⟩
  · rw [readByte, ramCells, ht, Memory.get_write_outside _ _ _ _ (.inl (by decide))]
    rw [Memory.get_write_inside s.tel 0 [0x0F] 0 (by decide)]
    rfl
  · obtain ⟨k, rfl⟩ := Nat.exists_eq_add_of_le hlo
    have hk : k < (zeroBytes 163).length := by rw [zeroBytes_length]; omega
    rw [readByte, ramCells, ht, Memory.get_write_inside _ _ _ _ hk]
    exact List.getElem_replicate _
  · have out : 1 + (zeroBytes 163).length ≤ a := by rw [zeroBytes_length]; exact ha
    rw [readByte, ramCells, ht, Memory.get_write_outside _ _ _ _ (.inr out),
      Memory.get_write_outside _ _ _ _ (.inr (by simp; omega)), readByte, ramCells, he]

/-- Settles O34: by TELE_EN and tbuf_alloc the buffer is allocated, freed or kept, and then EnterSyncing runs. -/
theorem preflightBooted : Obligations.PreflightBooted := by
  intro s hs hb
  have same : ∀ t : State, t.tel = s.tel → t.epoch = s.epoch → ∀ a, readByte .tel t a = readByte .tel s a :=
    fun t ht he a => readByte_congr .tel t s a ht he
  rcases telemetryBufferMatch_cases s with ⟨ht, ha, hu⟩ | ⟨ht, ha, hu⟩ | ⟨ht, hu⟩
  · refine ⟨_, stepPreflight_booted hs hb hu, ?_, fun _ _ => readByte_allocated rfl rfl, ?_⟩
    · rw [show s.preflight.getLsbD 1 = true from ht]
      rfl
    · rintro (hn | hn)
      · exact absurd (ht.symm.trans hn) nofun
      · exact absurd (ha.symm.trans hn) nofun
  · refine ⟨_, stepPreflight_booted hs hb hu, ?_, fun hn _ => absurd (ht.symm.trans hn) nofun, fun _ => same _ rfl rfl⟩
    rw [show s.preflight.getLsbD 1 = false from ht]
    rfl
  · refine ⟨_, stepPreflight_booted hs hb hu, ?_, fun hn hf => absurd (hn.symm.trans (ht.trans hf)) nofun,
      fun _ => same _ rfl rfl⟩
    rw [show s.preflight.getLsbD 1 = s.tbufAlloc from ht]
    rfl

/-- Settles O35: the step's condition is the hypotheses. -/
theorem syncStep : Obligations.SyncStep := fun _ hs hd hp => if_pos ⟨hs, Bool.eq_false_iff.mp hd, hp⟩

/-! ## Headers, probes and the end of an episode -/

/-- In either of its states the HEADER step with its header ready runs its body. -/
theorem exec_headerSteps {s : State} {h : BitVec 32} {rest : List Byte} (hr : s.stream = headerBytes h ++ rest) :
    (s.st = .syncing → s.syncDone = true → exec .stepHeaderSyncing s = .next (afterHeaderStep h rest s)) ∧
    (s.st = .streaming → s.pend = .none → exec .stepHeaderStreaming s = .next (afterHeaderStep h rest s)) := by
  have body : headerStep s = .next (afterHeaderStep h rest s) := headerStep_next h rest s hr
  exact ⟨fun hs hd => (if_pos ⟨hs, hd⟩).trans body, fun hs hp => (if_pos ⟨hs, hp⟩).trans body⟩

/-- Settles O37: the PROBE step's next state is `afterProbeStep`. -/
theorem probeStep : Obligations.ProbeStep := fun s h rest hs hp hr => stepProbe_next h rest s hs hp hr

/-- Settles O38: after the 120th probe the step is the end of the capture. -/
theorem exhaustStep : Obligations.ExhaustStep := fun _ hs hp => if_pos ⟨hs, (probe_toNat_eq_iff _).mpr hp⟩

/-! ## Where the engine waits -/

theorem headerStep_short {s : State} (h : s.stream.length < 4) : headerStep s = .next s := by
  rw [headerStep, streamRead_short Config.hdrBytes s h]
  rfl

theorem stepPayload_short {s : State} (h : s.stream.length < 160) : execStepPayload s = .next s := by
  rw [execStepPayload, streamRead_short Config.payBytes s h]
  exact ite_self _

theorem stepProbe_short {s : State} (h : s.stream.length < 4) : execStepProbe s = .next s := by
  rw [execStepProbe, streamRead_short Config.hdrBytes s h]
  exact ite_self _

/-- A header row waits in every class where no header is due or its header does not stand in the stream. -/
theorem headerEnabled_false {h : BitVec 32} {s : State} (hn : headerDue s = false ∨ s.stream.take 4 ≠ headerBytes h)
    (k : HeaderClass) : headerEnabled k h s = false := by
  refine Bool.eq_false_iff.mpr fun he => ?_
  obtain ⟨hd, hst, -⟩ := (headerEnabled_iff k h s).mp he
  rcases hn with hn | hn
  · exact absurd (hn.symm.trans hd) nofun
  · exact hn (of_decide_eq_true hst)

/-- A header row waits where the header is not of its class. -/
theorem headerEnabled_other_class {k : HeaderClass} {h : BitVec 32} {s : State}
    (hn : headerClass (headerContext s) h ≠ k) : headerEnabled k h s = false :=
  Bool.eq_false_iff.mpr fun he => hn ((headerEnabled_iff k h s).mp he).2.2

theorem headerClass_discard_iff (h : BitVec 32) (s : State) :
    headerClass (headerContext s) h = .discard ↔ isDiscard h = true := by
  refine ⟨fun hc => ?_, headerClass_of_isDiscard _⟩
  have hr := headerRule_headerClass (headerContext s) h
  rw [hc] at hr
  exact (isDiscard_iff h).mpr hr

theorem headerClass_newframe_iff (h : BitVec 32) (s : State) :
    headerClass (headerContext s) h = .newframe ↔ s.st = .resyncing ∧ isNewframe h s = true := by
  refine ⟨fun hc => ?_, fun ⟨hs, hn⟩ => headerClass_of_isNewframe hs hn⟩
  rcases headerClass_cases h s with ⟨hq, -⟩ | ⟨hq, -⟩ | ⟨hq, -⟩ | ⟨-, hs, -, hn⟩ | ⟨hq, -⟩
  case inr.inr.inr.inl => exact ⟨hs, hn⟩
  all_goals exact absurd (hq.symm.trans hc) nofun

theorem headerClass_outOfSync {h : BitVec 32} {s : State} (hc : headerClass (headerContext s) h = .outOfSync) :
    isDiscard h = false ∧ matchesHeader h s = false ∧ (s.st = .resyncing → isNewframe h s = false) := by
  rcases headerClass_cases h s with ⟨hq, -⟩ | ⟨hq, -⟩ | ⟨hq, -⟩ | ⟨hq, -⟩ | ⟨-, hr⟩
  case inr.inr.inr.inr => exact hr
  all_goals exact absurd (hq.symm.trans hc) nofun

/-- Settles O42: a step's own test fails, or its read finds too few bytes; a header row is not enabled. -/
theorem notEnabledWaits : Obligations.NotEnabledWaits := by
  intro s h
  obtain ⟨discard, telemetry, image, newframe, outOfSync⟩ := execHdr_waits h s
  refine ⟨fun hn => ?_, fun hn => ?_, fun hn => ?_, fun hn => ?_, fun hn => ?_, fun hn => ?_, fun hn => ?_,
    fun hn i hi => ?_, fun hn => ?_, fun hn => ?_, fun hn => ?_, fun hn => ?_, fun hn => ?_⟩
  · exact if_neg hn
  · refine if_neg fun ⟨hs, hd, hp⟩ => ?_
    rcases hn with hn | hn | hn
    · exact hn hs
    · exact hd hn
    · exact absurd (hn.symm.trans hp) nofun
  · rw [exec, execStepHeaderSyncing]
    rcases hn with hn | hn | hn
    · exact if_neg fun hc => hn hc.1
    · exact if_neg fun hc => Bool.eq_false_iff.mp hn hc.2
    · rw [headerStep_short hn]
      exact ite_self _
  · rw [exec, execStepHeaderStreaming]
    rcases hn with hn | hn | hn
    · exact if_neg fun hc => hn hc.1
    · exact if_neg fun hc => hn hc.2
    · rw [headerStep_short hn]
      exact ite_self _
  · rcases hn with hn | hn | hn
    · exact if_neg fun hc => hn hc.1
    · exact if_neg fun hc => hc.2 hn
    · exact stepPayload_short hn
  · rcases hn with hn | hn | hn
    · exact if_neg fun hc => hn hc.1
    · exact if_neg fun hc => Nat.not_lt.mpr hn hc.2
    · exact stepProbe_short hn
  · refine if_neg fun ⟨hs, hp⟩ => ?_
    rcases hn with hn | hn
    · exact hn hs
    · exact hn ((probe_toNat_eq_iff _).mp hp)
  · have off := headerEnabled_false hn
    simp only [List.mem_cons, List.not_mem_nil, or_false] at hi
    rcases hi with rfl | rfl | rfl | rfl | rfl
    · exact discard (off _)
    · exact telemetry (off _)
    · exact image (off _)
    · exact newframe (off _)
    · exact outOfSync (off _)
  · refine discard (headerEnabled_other_class fun hc => ?_)
    exact Bool.eq_false_iff.mp hn ((headerClass_discard_iff h s).mp hc)
  · refine telemetry (headerEnabled_other_class fun hc => ?_)
    exact Bool.eq_false_iff.mp hn ((headerClass_telemetry_iff h s).mp hc)
  · refine image (headerEnabled_other_class fun hc => ?_)
    exact Bool.eq_false_iff.mp hn ((headerClass_image_iff h s).mp hc)
  · refine newframe (headerEnabled_other_class fun hc => ?_)
    obtain ⟨hs, hf⟩ := (headerClass_newframe_iff h s).mp hc
    exact hn.elim (fun hx => Bool.eq_false_iff.mp hx hf) fun hx => hx hs
  · refine outOfSync (headerEnabled_other_class fun hc => ?_)
    obtain ⟨hx, hm, hf⟩ := headerClass_outOfSync hc
    rcases hn with hn | hn | ⟨hs, hn⟩
    · exact absurd (hx.symm.trans hn) nofun
    · exact absurd (hm.symm.trans hn) nofun
    · exact absurd ((hf hs).symm.trans hn) nofun

end Sys2Proof.Machine

namespace Sys2Proof

/-- Settles O36: the next state written out in the statement is `afterHeaderStep`. -/
theorem headerStep : Obligations.HeaderStep := fun _ _ _ hr => Machine.exec_headerSteps hr

end Sys2Proof
end

section
/-! SUPPORT. What may move the engine: the host while it is busy or idle (42_synchronizer.md R260, R288), and the
engine's own rows of the transition table (R290). -/

namespace Sys2Proof.Machine

/-! ## The host while a capture runs -/

theorem hostRow_of_encode_length {i : Instr} (h : (encode i).length = 5) : HostRow i := by
  cases i
  case hdrDiscard | hdrTelemetry | hdrImage | hdrNewframe | hdrOutOfSync => exact absurd h nofun
  case stepPreflight | stepSync | stepHeaderSyncing | stepHeaderStreaming | stepPayload | stepProbe | stepExhaust =>
    exact absurd h nofun
  all_goals rfl

theorem accessBytes_length (x : Access) : (accessBytes x).length = 5 := by cases x <;> rfl

/-- Every transaction decodes to a host row (30_encoding.md R151). -/
theorem decodeHost_hostRow (t : BitVec 17) (d : Word) : HostRow (decodeHost t d) := by
  obtain ⟨-, he⟩ := decodeHost_isRowOf resetContext t d
  exact hostRow_of_encode_length (he ▸ accessBytes_length _)

theorem hostBytes_inj {t u : BitVec 17} {d e : Word} (h : hostBytes t d = hostBytes u e) : t = u ∧ d = e := by
  simp only [hostBytes, List.cons.injEq, and_true, ← BitVec.toNat_inj, BitVec.toNat_setWidth, BitVec.extractLsb'_toNat,
    Nat.shiftRight_eq_div_pow] at h ⊢
  omega

/-- The one transaction that acknowledges events (41_host_interface.md R209). -/
theorem eq_of_decodeHost_wrEvents {t : BitVec 17} {d e : Word} (h : decodeHost t d = .wrEvents e) :
    t = 0x10008 ∧ e = d := by
  obtain ⟨-, he⟩ := decodeHost_isRowOf resetContext t d
  rw [h, accessBytes_accessOf] at he
  obtain ⟨rfl, hd⟩ := hostBytes_inj he
  exact ⟨rfl, hd⟩

/-- The state with other contents in the registers a busy block's host can change. -/
def withHostRegisters (r : Option Response) (ev en : BitVec 3) (c : BitVec 4) (a : Word) (s : State) : State :=
  { s with response := r, events := ev, irqEn := en, busErrCause := c, busErrAddr := a }

/-- What a transaction does to a busy block: no more than its host registers, and no event is cleared but by an
acknowledgement of it. -/
def OnlyHostRegisters (i : Instr) (s u : State) : Prop :=
  u = withHostRegisters u.response u.events u.irqEn u.busErrCause u.busErrAddr s ∧
  ∀ k, k < 3 → u.events.getLsbD k = false → s.events.getLsbD k = true →
    ∃ e : Word, i = .wrEvents e ∧ e.getLsbD k = true

theorem onlyHostRegisters_of_or {i : Instr} {s u : State} (e : BitVec 3) (he : u.events = s.events ||| e)
    (hu : u = withHostRegisters u.response u.events u.irqEn u.busErrCause u.busErrAddr s) :
    OnlyHostRegisters i s u := by
  refine ⟨hu, fun k _ hn hk => ?_⟩
  rw [he, BitVec.getLsbD_or, hk] at hn
  cases hn

theorem Effect.onlyHostRegisters {i : Instr} {s u : State} (e : Effect s i u) (hi : HostRow i) (hs : s.st ≠ .idle) :
    OnlyHostRegisters i s u := by
  cases e
  case answers => exact onlyHostRegisters_of_or 0 BitVec.or_zero.symm rfl
  case irqEnabled => exact onlyHostRegisters_of_or 0 BitVec.or_zero.symm rfl
  case raises => exact onlyHostRegisters_of_or 0b100 rfl rfl
  case startIgnored => exact onlyHostRegisters_of_or 0b010 rfl rfl
  case acknowledged d =>
    refine ⟨rfl, fun k hk hn hq => ⟨d, rfl, ?_⟩⟩
    have hn : (s.events &&& ~~~d.extractLsb' 0 3).getLsbD k = false := hn
    simpa [hk, hq] using hn
  case start hq | mode hq _ | preflight hq => exact absurd hq hs
  case waits hn => exact absurd hi hn
  case accepts hr | losesSync hr => exact absurd hi (readsHeader_not_host (headerStepOf_not_host s) hr)
  case resumes hr | newFrame hr | probes hr =>
    exact absurd hi (readsHeader_not_host (k := .stepProbe) (by decide) hr)
  all_goals exact nomatch hi

/-- Settles O51: a transaction decodes to a host row, whose effect on a busy block is on its host registers alone. -/
theorem noCancellation : Obligations.NoCancellation := by
  intro s u t d hs he
  obtain ⟨hu, hk⟩ := (exec_effect _ s u he).onlyHostRegisters (decodeHost_hostRow t d) hs
  refine ⟨hu, fun k hlt hn hq => ?_⟩
  obtain ⟨e, hi, hb⟩ := hk k hlt hn hq
  obtain ⟨ht, rfl⟩ := eq_of_decodeHost_wrEvents hi
  exact ⟨ht, hb⟩

/-! ## The way out of IDLE -/

theorem not_headerDue_of_idle {s : State} (hs : s.st = .idle) : ¬HeaderDue s := by
  rintro (⟨h, -⟩ | ⟨h, -⟩) <;> exact absurd (hs.symm.trans h) nofun

/-- From IDLE an effect is an accepted START, or it stays in IDLE (42_synchronizer.md R260). -/
theorem Effect.start_of_idle {i : Instr} {s t : State} (e : Effect s i t) (hs : s.st = .idle) (ht : t.st ≠ .idle) :
    t.st = .preflight ∧ ∃ d : Word, i = .wrCtrl d ∧ d.getLsbD 0 = true := by
  cases e
  case start d hd _ => exact ⟨rfl, d, rfl, hd⟩
  case waits | answers | raises | mode | preflight | acknowledged | irqEnabled | startIgnored => exact absurd hs ht
  case accepts hd _ _ _ | losesSync hd _ _ _ => exact absurd hd (not_headerDue_of_idle hs)
  case notBooted | exhausts => exact absurd rfl ht
  case resumes hq _ _ _ _ | newFrame hq _ _ _ _ | probes hq _ _ _ _ _ => exact absurd (hs.symm.trans hq) nofun
  case direct hq _ _ _ _ _ | slot hq _ _ _ _ _ | band hq _ _ _ _ _ | telemetry hq _ _ _ | drops hq _ _ _ =>
    exact absurd (hs.symm.trans hq) nofun
  case allocates hq _ _ _ | frees hq _ _ _ | keeps hq _ _ | synced hq _ _ => exact absurd (hs.symm.trans hq) nofun

/-- Settles O54: every next state is an effect, and only START's leaves IDLE. -/
theorem onlyStartLeavesIdle : Obligations.OnlyStartLeavesIdle :=
  fun i s t hs he ht => (exec_effect i s t he).start_of_idle hs ht

/-! ## The transition table -/

/-- The two rows of PAYLOAD, before the rows that follow them: at both targets the capture is done, else it goes on
(42_synchronizer.md R278). -/
theorem afterPayload_rows {i : Instr} {s u : State} {later : Prop} (hi : i = .stepPayload) (hs : s.st = .streaming)
    (hp : s.pend ≠ .none) (hu : u.st = .streaming) :
    let t := afterPayload u
    let targets := t.outRow.toNat = height t.mode ∧ (teleEn t = false ∨ t.tele = 3)
    (i = .stepPayload ∧ s.st = .streaming ∧ s.pend ≠ .none ∧ targets ∧ t.st = .idle ∧
      t.result = .done) ∨
    (i = .stepPayload ∧ s.st = .streaming ∧ s.pend ≠ .none ∧ ¬targets ∧ t.st = .streaming ∧
      t.pend = .none) ∨ later := by
  intro t targets
  rcases afterPayload_cases u with ⟨hr, ht, he⟩ | ⟨hn, he⟩
  · have hd : targets ∧ t.st = .idle ∧ t.result = .done := by
      simp only [targets, t, he]
      exact ⟨⟨hr, ht⟩, rfl, rfl⟩
    exact .inl ⟨hi, hs, hp, hd⟩
  · have hd : ¬targets ∧ t.st = .streaming ∧ t.pend = .none := by
      simp only [targets, t, he]
      exact ⟨hn, hu, trivial⟩
    exact .inr (.inl ⟨hi, hs, hp, hd⟩)

theorem headerStepOf_syncing {s : State} (hs : s.st = .syncing) : headerStepOf s = .stepHeaderSyncing := if_pos hs

theorem headerStepOf_streaming {s : State} (hs : s.st = .streaming) : headerStepOf s = .stepHeaderStreaming :=
  if_neg (by rw [hs]; nofun)

/-- At the start of a pass the window is open for header placement only (42_synchronizer.md R266). -/
theorem inWindow_of_zero {s : State} (hl : s.line = 0) (ht : s.tele = 0) :
    inWindow s = (teleEn s && !teleLoc s) := by
  rw [inWindow, tpos, hl, ht]
  cases teleLoc s <;> simp

/-- What a new frame's header owes under the counters set back (42_synchronizer.md R285). -/
theorem pend_restart {h : BitVec 32} {s u : State} (hn : isNewframe h s = true) (hl : u.line = 0) (ht : u.tele = 0)
    (hp : u.preflight = s.preflight) :
    (afterMatch h u).pend = if teleEn s = true ∧ teleLoc s = false then .telStore else .img := by
  have hx : isDiscard h = false := ((isNewframe_iff h s).mp hn).1
  have he : teleEn u = teleEn s := congrArg (BitVec.getLsbD · 1) hp
  have hc : teleLoc u = teleLoc s := congrArg (BitVec.getLsbD · 2) hp
  rw [afterMatch, isTele, hx, inWindow_of_zero hl ht, he, hc, if_pos ht]
  cases teleEn s <;> cases teleLoc s <;> rfl

/-- The two rows of a probe that finds a new frame: the fifth skip ends the capture, any other starts the pass again
(42_synchronizer.md R284, R285). -/
theorem afterNewFrame_rows {k : BitVec 32} {rest : List Byte} {s : State} (hk : s.skip.toNat ≤ 4)
    (hn : isNewframe k s = true) :
    let t := afterNewFrame k (afterProbeRead k rest s)
    t.hdr = k ∧ t.stream = rest ∧ t.probe = s.probe + 1 ∧
    ((s.skip.toNat + 1 = 5 ∧ t.st = .idle ∧ t.result = .frameSkipLimit ∧ t.skip = 5 ∧
        t.line = s.line ∧ t.outRow = s.outRow ∧ t.tele = s.tele) ∨
      (s.skip.toNat + 1 < 5 ∧ t.st = .streaming ∧ t.skip.toNat = s.skip.toNat + 1 ∧
        t.line = 0 ∧ t.outRow = 0 ∧ t.tele = 0 ∧
        t.pend = if teleEn s = true ∧ teleLoc s = false then .telStore else .img)) := by
  intro t
  rcases afterNewFrame_cases k (afterProbeRead k rest s) with ⟨h5, he⟩ | ⟨h5, he⟩
  · have h5 : s.skip + 1 = 5 := h5
    simp only [t, he]
    exact ⟨rfl, rfl, rfl, .inl ⟨by bv_omega, rfl, rfl, h5, rfl, rfl, rfl⟩⟩
  · have h5 : s.skip + 1 ≠ 5 := h5
    have hlt : s.skip.toNat + 1 < 5 := by bv_omega
    have hskip : (s.skip + 1).toNat = s.skip.toNat + 1 := by bv_omega
    simp only [t, he]
    exact ⟨rfl, rfl, rfl, .inr ⟨hlt, rfl, hskip, rfl, rfl, rfl, pend_restart hn rfl rfl rfl⟩⟩

/-- Settles O55: each effect of an engine step or header row is a row of the table, here by its number after waiting;
a header read where a HEADER step is due is a row of the state it is due in. -/
theorem transitionTable : Obligations.TransitionTable := by
  intro c i s t hinv hp he h reads owed targets counters
  have hi : ¬HostRow i := mt (portOf_host_iff c i).mpr hp
  have e := exec_effect i s t he
  cases e
  case answers hq | raises hq => exact absurd hq hi
  case start | startIgnored | mode | preflight | acknowledged | irqEnabled => exact absurd rfl hi
  case waits => exact .inl rfl
  case notBooted hs hb =>
    iterate 1 right
    exact .inl ⟨rfl, hs, hb, rfl, rfl, rfl, rfl, rfl, rfl⟩
  case allocates hs hb ht _ | frees hs hb ht _ | keeps hs hb ht =>
    iterate 2 right
    exact .inl ⟨rfl, hs, hb, rfl, rfl, ht.symm, rfl, rfl, rfl, rfl⟩
  case synced hs hd _ =>
    iterate 3 right
    exact .inl ⟨rfl, hs, hd, hs, rfl, rfl, rfl, rfl, rfl⟩
  case accepts hd hm hk hr =>
    rcases hd with ⟨hs, hd⟩ | ⟨hs, hd⟩
    · rw [headerStepOf_syncing hs] at hr
      iterate 4 right
      exact .inl ⟨⟨hr, hk⟩, hs, hd, hm, rfl, rfl, rfl, rfl, rfl, rfl⟩
    · rw [headerStepOf_streaming hs] at hr
      iterate 6 right
      exact .inl ⟨⟨hr, hk⟩, hs, hd, hm, rfl, rfl, rfl, rfl, rfl, rfl⟩
  case losesSync hd hm hk hr =>
    rcases hd with ⟨hs, hd⟩ | ⟨hs, hd⟩
    · rw [headerStepOf_syncing hs] at hr
      iterate 5 right
      exact .inl ⟨⟨hr, hk⟩, hs, hd, hm, rfl, rfl, rfl, rfl, rfl, rfl⟩
    · rw [headerStepOf_streaming hs] at hr
      iterate 7 right
      exact .inl ⟨⟨hr, hk⟩, hs, hd, hm, rfl, rfl, rfl, rfl, rfl, rfl⟩
  case direct hs hq _ _ _ _ | slot hs hq _ _ _ _ | band hs hq _ _ _ _ | telemetry hs hq _ _ | drops hs hq _ _ =>
    iterate 8 right
    exact afterPayload_rows rfl hs (by rw [hq]; nofun) hs
  case exhausts hs hq =>
    iterate 10 right
    exact .inl ⟨rfl, hs, (probe_toNat_eq_iff _).mp hq, rfl, rfl, rfl, rfl, rfl, rfl⟩
  case resumes hs hq hm hk hr =>
    iterate 11 right
    exact .inl ⟨⟨hr, hk⟩, hs, hq, rfl, hm, rfl, rfl, rfl, rfl, rfl, rfl⟩
  case newFrame k hs hq hn hk hr =>
    have hskip : s.skip.toNat ≤ 4 := hinv.skipIn (capturing_of_resyncing hs)
    obtain ⟨hh, ht, hpr, hrows⟩ := afterNewFrame_rows (rest := s.stream.drop 4) hskip hn
    have hread : reads .stepProbe := by
      simp only [reads, h, hh, ht]
      exact ⟨hr, hk⟩
    have hnew : isNewframe h s = true := (congrArg (isNewframe · s) hh).trans hn
    rcases hrows with hrow | ⟨hlt, hrow⟩
    · iterate 12 right
      exact .inl ⟨hread, hs, hq, hpr, hnew, hrow⟩
    · iterate 13 right
      exact .inl ⟨hread, hs, hq, hpr, hnew, hlt, hrow⟩
  case probes hs hq hm hn hk hr =>
    iterate 14 right
    exact ⟨⟨hr, hk⟩, hs, hq, rfl, hm, hn, hs, rfl, rfl, rfl, rfl⟩

end Sys2Proof.Machine
end

section
/-! SUPPORT. Runs of the engine's turns: an episode of probes without a match (42_synchronizer.md R279 to R281), and
the ordered packets of a frame in MODE 0 (R270, R275, R278; 43_reassembly.md R311). -/

namespace Sys2Proof.Machine

/-! ## Turns of the engine -/

/-- The engine's port hands the decoder the select vector whole (30_encoding.md R155). -/
theorem decode_selectVector (e : BitVec 6) : decode .engine [e.setWidth 8] = decodeStep e := by
  have reserved : (e.setWidth 8).extractLsb' 6 2 = 0 := by
    have := e.isLt
    simp only [extractLsb'_eq_iff, BitVec.toNat_setWidth, BitVec.reduceToNat]
    omega
  have vector : (e.setWidth 8).extractLsb' 0 6 = e := by
    rw [BitVec.extractLsb'_setWidth_of_le (by decide), BitVec.extractLsb'_eq_self]
  simp only [decode, reserved, vector, if_true]

/-- The engine's turn runs the step that the select vector enables. -/
theorem step_engine {s : State} {more : List Input} {i : Instr} (hx : s.inputs = .engine :: more)
    (hi : decodeStep (selectVector s) = .ok i) : step s = exec i { s with inputs := more } :=
  step_of_fetch hx (fetch_eq_some rfl ((decode_selectVector (selectVector s)).trans hi))

/-- `k` steps of the machine, over its own state type. -/
def runSteps (k : Nat) (s : State) : Out := Host.Core.run core k s

theorem core_run_succ {M : Host.Core} {s t : M.State} (h : M.step s = .next t) (k : Nat) :
    M.run (k + 1) s = M.run k t := by
  rw [Host.Core.run, h]

theorem runSteps_succ {s t : State} (h : step s = .next t) (k : Nat) : runSteps (k + 1) s = runSteps k t :=
  core_run_succ (M := core) h k

/-! ## An episode without a match -/

/-- An engine turn on a probe that neither matches nor begins a frame. -/
theorem step_probe {s : State} {h : BitVec 32} {rest : List Byte} {more : List Input} (hs : s.st = .resyncing)
    (hp : s.probe.toNat < 120) (hn : matchesHeader h s = false ∧ isNewframe h s = false)
    (hr : s.stream = headerBytes h ++ rest) (hx : s.inputs = .engine :: more) :
    step s = .next (afterProbeRead h rest { s with inputs := more }) := by
  rw [step_engine hx (decodeStep_probeDue hs hp)]
  exact (stepProbe_next h rest { s with inputs := more } hs hp hr).trans
    (congrArg _ (afterProbeStep_noMatch hn.1 hn.2))

/-- An engine turn after the last probe. -/
theorem step_exhaust {s : State} {more : List Input} (hs : s.st = .resyncing) (hp : s.probe = 120)
    (hx : s.inputs = .engine :: more) : step s = .next (afterEnd .resyncExhausted { s with inputs := more }) := by
  have enabled : decodeStep (selectVector s) = .ok .stepExhaust :=
    (enabledStep s .stepExhaust).mpr (by simp [hs, hp])
  rw [step_engine hx enabled]
  exact if_pos ⟨hs, (probe_toNat_eq_iff _).mpr hp⟩

/-- The probes left to an episode, none of them a match, and the turn that ends it. -/
theorem run_probes (hs : List (BitVec 32)) (rest : List Byte) (more : List Input) (s : State) (hst : s.st = .resyncing)
    (hp : s.probe.toNat + hs.length = 120) (hn : ∀ h ∈ hs, matchesHeader h s = false ∧ isNewframe h s = false)
    (hr : s.stream = hs.flatMap headerBytes ++ rest)
    (hx : s.inputs = List.replicate (hs.length + 1) .engine ++ more) :
    runSteps (hs.length + 1) s = .next (afterEnd .resyncExhausted { s with
      stream := rest, inputs := more, probe := 120, hdr := hs.getLastD s.hdr }) := by
  induction hs generalizing s with
  | nil =>
    have full : s.probe = 120 := (probe_toNat_eq_iff _).mp hp
    have empty : s.stream = rest := hr
    rw [runSteps_succ (step_exhaust hst full hx), ← full, ← empty]
    rfl
  | cons h hs ih =>
    rw [List.length_cons] at hp hx ⊢
    rw [List.flatMap_cons, List.append_assoc] at hr
    have room : s.probe.toNat < 120 := by omega
    have counted : (s.probe + 1).toNat + hs.length = 120 := by bv_omega
    have read := step_probe (more := List.replicate (hs.length + 1) Input.engine ++ more) hst room
      (hn h List.mem_cons_self) hr hx
    rw [runSteps_succ read, ih (afterProbeRead h (hs.flatMap headerBytes ++ rest)
      { s with inputs := List.replicate (hs.length + 1) .engine ++ more }) hst counted
      (fun k hk => hn k (List.mem_cons_of_mem h hk)) rfl rfl]
    rw [List.getLastD_cons]
    rfl

/-- Settles O57: an episode from its first probe on. -/
theorem probeBudget : Obligations.ProbeBudget := by
  intro s hs rest more hst hp hl hn hr hx
  have run := run_probes hs rest more s hst (by rw [hp, hl]; rfl) hn hr (by rw [hl]; exact hx)
  have last : hs.getLastD s.hdr = hs.getLastD 0 := by
    cases hs with
    | nil => cases hl
    | cons h hs => rw [List.getLastD_cons, List.getLastD_cons]
  rwa [hl, last] at run

/-! ## A packet of a frame in MODE 0 -/

/-- A packet is the image packet of raw line n. -/
structure IsLine (n : Nat) (p : BitVec 32 × List Byte) : Prop where
  notDiscard : isDiscard p.1 = false
  line : (headerLine p.1).toNat = n
  length : p.2.length = 160

/-- The engine is about to read the header of raw line n, in MODE 0 without telemetry. -/
structure AwaitsLine (n : Nat) (s : State) : Prop where
  st : s.st = .streaming
  pend : s.pend = .none
  mode : s.mode = .m80x60x16
  noTele : teleEn s = false
  line : s.line.toNat = n
  outRow : s.outRow.toNat = n

/-- The state with the header of its line read and accepted, its payload owed. -/
def lineAccepted (p : BitVec 32 × List Byte) (bytes : List Byte) (more : List Input) (s : State) : State :=
  { afterHeaderRead p.1 bytes { s with inputs := more } with st := .streaming, pend := .img }

/-- The state with the packet of its line read and stored on the direct path. -/
def lineStored (p : BitVec 32 × List Byte) (rest : List Byte) (more : List Input) (s : State) : State :=
  { s with
    stream := rest
    inputs := more
    hdr := p.1
    syncDone := false
    img := s.img.write (s.line.toNat * 160) p.2
    line := s.line + 1
    outRow := s.outRow + 1 }

section
variable {n : Nat} {s : State} {p : BitVec 32 × List Byte} {rest : List Byte} {more : List Input}

theorem AwaitsLine.isImage (a : AwaitsLine n s) (hn : n < 60) (hp : IsLine n p) : isImage p.1 s = true := by
  have closed : inWindow s = false := by rw [inWindow, a.noTele]; rfl
  have hl : headerLine p.1 = s.line.setWidth 8 := by
    apply BitVec.eq_of_toNat_eq
    rw [hp.line, BitVec.toNat_setWidth_of_le (by decide), a.line]
  exact (isImage_iff p.1 s).mpr ⟨hp.notDiscard, closed, a.line ▸ hn, hl⟩

/-- The turn that reads the header of the awaited line. -/
theorem AwaitsLine.step_header (a : AwaitsLine n s) (hn : n < 60) (hp : IsLine n p) {bytes : List Byte}
    (hr : s.stream = headerBytes p.1 ++ bytes) (hx : s.inputs = .engine :: more) :
    step s = .next (lineAccepted p bytes more s) := by
  rw [step_engine hx (decodeStep_headerDue (.inr ⟨a.st, a.pend⟩)), headerStepOf_streaming a.st]
  exact ((exec_headerSteps (s := { s with inputs := more }) hr).2 a.st a.pend).trans
    (congrArg _ (afterHeaderStep_image (a.isImage hn hp)))

/-- The turn that reads an image payload on the direct path. -/
theorem step_direct {s : State} {pay : List Byte} (hs : s.st = .streaming) (hp : s.pend = .img)
    (hm : s.mode = .m80x60x16) (hl : s.line.toNat < 60) (hy : pay.length = 160) (hr : s.stream = pay ++ rest)
    (hx : s.inputs = .engine :: more) :
    step s = .next (afterPayload (directStored pay rest { s with inputs := more })) := by
  have enabled : decodeStep (selectVector s) = .ok .stepPayload :=
    (enabledStep s .stepPayload).mpr (by simp [hs, hp])
  have stored : storePayload pay { s with inputs := more, stream := rest } =
      .next (directStored pay rest { s with inputs := more }) :=
    (storeImage_direct pay rest { s with inputs := more } hp hm).trans (storeDirect_next pay _ hy hm hl)
  rw [step_engine hx enabled]
  exact stepPayload_next pay rest { s with inputs := more } _ hs (fun hn => absurd (hp.symm.trans hn) nofun) hy hr
    stored

/-- The two turns of a packet. -/
theorem AwaitsLine.run_packet (a : AwaitsLine n s) (hn : n < 60) (hp : IsLine n p)
    (hr : s.stream = headerBytes p.1 ++ (p.2 ++ rest)) (hx : s.inputs = .engine :: .engine :: more) (k : Nat) :
    runSteps (k + 2) s = runSteps k (afterPayload (lineStored p rest more s)) := by
  have payload : step (lineAccepted p (p.2 ++ rest) (.engine :: more) s) =
      .next (afterPayload (directStored p.2 rest (lineAccepted p (p.2 ++ rest) more s))) :=
    step_direct rfl rfl a.mode (a.line ▸ hn) hp.length rfl rfl
  have same : directStored p.2 rest (lineAccepted p (p.2 ++ rest) more s) =
      { lineStored p rest more s with pend := .img } := by
    rw [directStored, lineStored, lineAccepted, ← a.st]
    rfl
  rw [runSteps_succ (a.step_header hn hp hr hx), runSteps_succ payload, same]
  rfl

theorem AwaitsLine.counters_succ (a : AwaitsLine n s) (hn : n < 60) :
    (s.line + 1).toNat = n + 1 ∧ (s.outRow + 1).toNat = n + 1 := by
  have := a.line
  have := a.outRow
  constructor <;> bv_omega

/-- The last line is the one that meets the row target (42_synchronizer.md R278). -/
theorem AwaitsLine.targetsMet_iff (a : AwaitsLine n s) (hn : n < 60) :
    targetsMet (lineStored p rest more s) = true ↔ n + 1 = 60 := by
  have rows : height (lineStored p rest more s).mode = 60 := congrArg height a.mode
  have count : (lineStored p rest more s).outRow.toNat = n + 1 := (a.counters_succ hn).2
  have noTele : teleEn (lineStored p rest more s) = false := a.noTele
  rw [Machine.targetsMet_iff, rows, count]
  exact and_iff_left (.inl noTele)

theorem lineStored_pend (hp : s.pend = .none) :
    { lineStored p rest more s with pend := .none } = lineStored p rest more s := by
  rw [lineStored, hp]

/-- Before the last line the engine goes on to the next one. -/
theorem AwaitsLine.next_line (a : AwaitsLine n s) (hn : n + 1 < 60) :
    afterPayload (lineStored p rest more s) = lineStored p rest more s ∧
      AwaitsLine (n + 1) (lineStored p rest more s) := by
  obtain ⟨hl, ho⟩ := a.counters_succ (by omega)
  refine ⟨?_, a.st, a.pend, a.mode, a.noTele, hl, ho⟩
  rcases afterPayload_cases (lineStored p rest more s) with ⟨hr, ht, -⟩ | ⟨-, he⟩
  · have := (a.targetsMet_iff (by omega)).mp ((Machine.targetsMet_iff _).mpr ⟨hr, ht⟩)
    omega
  · rw [he, lineStored_pend a.pend]

/-- The last line ends the capture. -/
theorem AwaitsLine.last_line (a : AwaitsLine n s) (hn : n + 1 = 60) :
    afterPayload (lineStored p rest more s) = afterEnd .done (lineStored p rest more s) := by
  rcases afterPayload_cases (lineStored p rest more s) with ⟨-, -, he⟩ | ⟨hn', -⟩
  · rw [he, lineStored_pend a.pend]
  · exact absurd ((Machine.targetsMet_iff _).mp ((a.targetsMet_iff (by omega)).mpr hn)) hn'

/-- The payload of the line reads back. -/
theorem AwaitsLine.readByte_stored (a : AwaitsLine n s) {k : Nat} (hk : k < p.2.length) :
    readByte .img (lineStored p rest more s) (n * 160 + k) = p.2.getD k 0 := by
  have written : readByte .img (lineStored p rest more s) (s.line.toNat * 160 + k) = p.2[k] :=
    readByte_write_inside .img (s.line.toNat * 160) p.2 s k hk
  rw [← a.line, written, List.getD_eq_getElem _ _ hk]

/-- The lines before it read as before. -/
theorem AwaitsLine.readByte_before (a : AwaitsLine n s) {b : Nat} (hb : b < n * 160) :
    readByte .img (lineStored p rest more s) b = readByte .img s b :=
  readByte_write_outside .img (s.line.toNat * 160) p.2 s b (.inl (a.line.symm ▸ hb))

end

/-! ## The packets of a frame -/

/-- What the end of a valid frame leaves of the state before its last packets: the counters full, the schedule and the
stream behind them, one event more. -/
structure FrameEnded (rest : List Byte) (more : List Input) (s t : State) : Prop where
  st : t.st = .idle
  result : t.result = .done
  frameValid : t.frameValid = true
  events : t.events = s.events ||| 0b001
  line : t.line = 60
  outRow : t.outRow = 60
  skip : t.skip = s.skip
  stream : t.stream = rest
  inputs : t.inputs = more

theorem eq_sixty {v : BitVec 6} (h : v.toNat = 60) : v = 60 := BitVec.eq_of_toNat_eq h

/-- The packets from line n to the last one: the capture ends with their bytes in IMG, and the lines before them as
they were. -/
theorem run_packets (ps : List (BitVec 32 × List Byte)) (p : BitVec 32 × List Byte) (rest : List Byte)
    (more : List Input) (n : Nat) (s : State) (a : AwaitsLine n s) (hn : n + ps.length + 1 = 60)
    (hp : ∀ y, ∀ q ∈ (p :: ps)[y]?, IsLine (n + y) q)
    (hr : s.stream = (p :: ps).flatMap (fun q => headerBytes q.1 ++ q.2) ++ rest)
    (hx : s.inputs = List.replicate (2 * (ps.length + 1)) .engine ++ more) :
    ∃ t, runSteps (2 * (ps.length + 1)) s = .next t ∧ FrameEnded rest more s t ∧
      (∀ b, b < n * 160 → readByte .img t b = readByte .img s b) ∧
      ∀ y, ∀ q ∈ (p :: ps)[y]?, ∀ k, k < 160 → readByte .img t ((n + y) * 160 + k) = q.2.getD k 0 := by
  induction ps generalizing p n s with
  | nil =>
    have first : IsLine n p := hp 0 p rfl
    rw [List.flatMap_cons, List.append_assoc, List.append_assoc] at hr
    have last : n + 1 = 60 := hn
    obtain ⟨hl, ho⟩ := a.counters_succ (by omega)
    refine ⟨_, (a.run_packet (by omega) first hr hx 0).trans (congrArg _ (a.last_line last)),
      ⟨rfl, rfl, rfl, rfl, eq_sixty (hl.trans last), eq_sixty (ho.trans last), rfl, rfl, rfl⟩,
      fun b hb => ?_, fun y q hq k hk => ?_⟩
    · exact a.readByte_before (more := more) (rest := rest) (p := p) hb
    · cases y with
      | zero =>
        cases hq
        exact a.readByte_stored (more := more) (rest := rest) (by rw [first.length]; exact hk)
      | succ y => cases hq
  | cons q ps ih =>
    have first : IsLine n p := hp 0 p rfl
    rw [List.flatMap_cons, List.append_assoc, List.append_assoc] at hr
    rw [List.length_cons] at hn
    have run := a.run_packet (more := List.replicate (2 * (ps.length + 1)) Input.engine ++ more) (by omega) first hr hx
      (2 * (ps.length + 1))
    obtain ⟨hgo, hnext⟩ := a.next_line (p := p) (rest := (q :: ps).flatMap (fun q => headerBytes q.1 ++ q.2) ++ rest)
      (more := List.replicate (2 * (ps.length + 1)) Input.engine ++ more) (by omega)
    rw [hgo] at run
    obtain ⟨t, ht, ended, before, stored⟩ := ih q (n + 1) _ hnext (by omega)
      (fun y r hy => by rw [Nat.add_right_comm]; exact hp (y + 1) r hy) rfl rfl
    refine ⟨t, run.trans ht, { ended with }, fun b hb => ?_, fun y r hy k hk => ?_⟩
    · rw [before b (by omega), a.readByte_before hb]
    · cases y with
      | zero =>
        cases hy
        rw [Nat.add_zero, before _ (by omega)]
        exact a.readByte_stored (by rw [first.length]; exact hk)
      | succ y =>
        have := stored y r hy k hk
        rwa [Nat.add_right_comm] at this

/-- Settles O58: the run of 60 packets from line 0. -/
theorem cleanFrame : Obligations.CleanFrame := by
  intro s packets rest more hs hp hm ht hl ho hlen hps hr hx
  have a : AwaitsLine 0 s := ⟨hs, hp, hm, ht, by rw [hl]; rfl, by rw [ho]; rfl⟩
  cases packets with
  | nil => cases hlen
  | cons p ps =>
    have hcount : ps.length + 1 = 60 := hlen
    obtain ⟨t, run, ended, -, stored⟩ := run_packets ps p rest more 0 s a (by omega)
      (fun y q hq => by
        obtain ⟨hd, hn, hy⟩ := hps y q hq
        exact ⟨hd, hn.trans (Nat.zero_add y).symm, hy⟩)
      hr (by rw [hcount]; exact hx)
    rw [hcount] at run
    refine ⟨t, run, ended.st, ended.result, ended.frameValid, ended.events, ended.line, ended.outRow, ended.skip,
      ended.stream, ended.inputs, fun y q hq k hk => ?_⟩
    rw [← stored y q hq k hk, Nat.zero_add]

end Sys2Proof.Machine
end

section
/-! SUPPORT. The bound on a capture's stream reads (42_synchronizer.md R289): two budgets that every read spends from,
and that no step of a capture raises. -/

namespace Sys2Proof.Machine

/-! ## The budgets -/

/-- The payload reads left to a capture: at most 62 in each pass that a frame skip may still end, and up to the 63rd,
which completes the frame, in the present one. -/
def payloadsLeft (s : State) : Nat :=
  match s.st with
  | .idle => 0
  | .preflight | .syncing | .streaming | .resyncing => (4 - s.skip.toNat) * 62 + (63 - (s.line.toNat + s.tele.toNat))

/-- The header reads left to a capture: for each payload left, and once more where a header is next, one header and an
episode of 120 probes; in an episode the probes left of it. -/
def headersLeft (s : State) : Nat :=
  match s.st with
  | .idle => 0
  | .preflight | .syncing => 121 * (payloadsLeft s + 1)
  | .streaming => if s.pend = .none then 121 * (payloadsLeft s + 1) else 121 * payloadsLeft s
  | .resyncing => 121 * payloadsLeft s + (120 - s.probe.toNat)

/-- A step that reads `a` headers and `b` payloads takes them from the budgets. -/
def Spends (a b : Nat) (s t : State) : Prop :=
  headersLeft t + a ≤ headersLeft s ∧ payloadsLeft t + b ≤ payloadsLeft s

theorem Spends.weaken {a b : Nat} {s t : State} (h : Spends a b s t) : Spends 0 0 s t :=
  ⟨le_of_add_le_left h.1, le_of_add_le_left h.2⟩

theorem payloadsLeft_idle {s : State} (hs : s.st = .idle) : payloadsLeft s = 0 := by rw [payloadsLeft, hs]

theorem headersLeft_idle {s : State} (hs : s.st = .idle) : headersLeft s = 0 := by rw [headersLeft, hs]

theorem payloadsLeft_busy {s : State} (hs : s.st ≠ .idle) :
    payloadsLeft s = (4 - s.skip.toNat) * 62 + (63 - (s.line.toNat + s.tele.toNat)) := by
  rw [payloadsLeft]
  cases h : s.st
  case idle => exact absurd h hs
  all_goals rfl

theorem headersLeft_owed {s : State} (hs : s.st = .streaming) (hp : s.pend ≠ .none) :
    headersLeft s = 121 * payloadsLeft s := by
  rw [headersLeft, hs]
  exact if_neg hp

theorem headersLeft_start {s : State} (hs : s.st = .preflight ∨ s.st = .syncing) :
    headersLeft s = 121 * (payloadsLeft s + 1) := by
  rcases hs with hs | hs <;> rw [headersLeft, hs]

theorem headersLeft_due {s : State} (hd : HeaderDue s) : headersLeft s = 121 * (payloadsLeft s + 1) := by
  rcases hd with ⟨hs, -⟩ | ⟨hs, hp⟩ <;> rw [headersLeft, hs]
  exact if_pos hp

theorem headersLeft_resyncing {s : State} (hs : s.st = .resyncing) :
    headersLeft s = 121 * payloadsLeft s + (120 - s.probe.toNat) := by rw [headersLeft, hs]

theorem room_of_headerDue {s : State} (hd : HeaderDue s) : 121 * payloadsLeft s + 1 ≤ headersLeft s := by
  rw [headersLeft_due hd]
  omega

theorem room_of_probe {s : State} (hs : s.st = .resyncing) (hp : s.probe.toNat < 120) :
    121 * payloadsLeft s + 1 ≤ headersLeft s := by
  rw [headersLeft_resyncing hs]
  omega

theorem payloadsLeft_congr {s t : State} (hs : s.st ≠ .idle) (ht : t.st ≠ .idle) (hk : t.skip = s.skip)
    (hl : t.line = s.line) (he : t.tele = s.tele) : payloadsLeft t = payloadsLeft s := by
  rw [payloadsLeft_busy hs, payloadsLeft_busy ht, hk, hl, he]

/-- The end of a capture leaves nothing to read. -/
theorem spends_afterEnd {a b : Nat} {s : State} (code : Result) (u : State) (ha : a ≤ headersLeft s)
    (hb : b ≤ payloadsLeft s) : Spends a b s (afterEnd code u) := by
  have hi : (afterEnd code u).st = .idle := rfl
  rw [Spends, headersLeft_idle hi, payloadsLeft_idle hi]
  omega

/-! ## What each read spends -/

/-- A pass still running has accepted at most 62 packets: 60 lines and 3 sub-packets would have met both targets
(42_synchronizer.md R278). -/
theorem Inv.progress_le {s : State} (h : Inv s) (hc : capturing s = true) : s.line.toNat + s.tele.toNat ≤ 62 := by
  have hl := h.lineLe
  have ht := s.tele.isLt
  by_contra hn
  have h60 : s.line.toNat = 60 := by omega
  have h3 : s.tele = 3 := BitVec.eq_of_toNat_eq (show s.tele.toNat = 3 by omega)
  have rows : s.outRow.toNat = height s.mode := by
    rw [h.rowOfLine hc, h60]
    cases s.mode <;> rfl
  exact Bool.eq_false_iff.mp (h.incomplete hc) ((targetsMet_iff s).mpr ⟨rows, .inr h3⟩)

/-- A payload read takes one from its budget; the header that follows has been paid for. -/
theorem spends_payload {s u : State} (h : Inv s) (hs : s.st = .streaming) (hp : s.pend ≠ .none) (hu : u.st = .streaming)
    (hk : u.skip = s.skip) (hn : u.line.toNat + u.tele.toNat = s.line.toNat + s.tele.toNat + 1) :
    Spends 0 1 s (afterPayload u) := by
  have room := h.progress_le (h.streaming hs).capturing
  have left : payloadsLeft s = (4 - s.skip.toNat) * 62 + (63 - (s.line.toNat + s.tele.toNat)) :=
    payloadsLeft_busy (by rw [hs]; nofun)
  rcases afterPayload_cases u with ⟨-, -, he⟩ | ⟨-, he⟩ <;> rw [he]
  · exact spends_afterEnd _ _ (Nat.zero_le _) (by omega)
  · have hv : ({ u with pend := .none } : State).st ≠ .idle := fun hi => absurd (hu.symm.trans hi) nofun
    have next : payloadsLeft { u with pend := .none } =
        (4 - u.skip.toNat) * 62 + (63 - (u.line.toNat + u.tele.toNat)) :=
      payloadsLeft_busy hv
    have due : headersLeft { u with pend := .none } = 121 * (payloadsLeft { u with pend := .none } + 1) :=
      headersLeft_due (.inr ⟨hu, rfl⟩)
    rw [Spends, due, headersLeft_owed hs hp, next, left, hk]
    omega

theorem afterMatch_pend (h : BitVec 32) (s : State) : (afterMatch h s).pend ≠ .none := by
  rw [afterMatch]
  dsimp only
  split_ifs <;> nofun

theorem payloadsLeft_afterMatch (h : BitVec 32) (s : State) :
    payloadsLeft (afterMatch h s) = (4 - s.skip.toNat) * 62 + (63 - (s.line.toNat + s.tele.toNat)) :=
  payloadsLeft_busy (s := afterMatch h s) nofun

/-- A header accepted owes a payload that was in the budget. -/
theorem spends_afterMatch {h : BitVec 32} {s u : State} (hl : payloadsLeft (afterMatch h u) ≤ payloadsLeft s)
    (hs : 121 * payloadsLeft s + 1 ≤ headersLeft s) : Spends 1 0 s (afterMatch h u) := by
  rw [Spends, headersLeft_owed rfl (afterMatch_pend h u)]
  omega

/-- A header accepted with the counters as they are. -/
theorem spends_accept {h : BitVec 32} {s u : State} (hc : capturing s = true) (hk : u.skip = s.skip)
    (hl : u.line = s.line) (he : u.tele = s.tele) (hs : 121 * payloadsLeft s + 1 ≤ headersLeft s) :
    Spends 1 0 s (afterMatch h u) := by
  refine spends_afterMatch ?_ hs
  rw [payloadsLeft_afterMatch, payloadsLeft_busy (not_idle_of_capturing hc), hk, hl, he]

/-- Before the first header nothing is spent. -/
theorem spends_start {s t : State} (hs : s.st = .preflight ∨ s.st = .syncing) (ht : t.st = .syncing)
    (hk : t.skip = s.skip) (hl : t.line = s.line) (he : t.tele = s.tele) : Spends 0 0 s t := by
  have busy : s.st ≠ .idle := by rcases hs with hs | hs <;> rw [hs] <;> nofun
  rw [Spends, headersLeft_start hs, headersLeft_start (.inr ht),
    payloadsLeft_congr busy (by rw [ht]; nofun) hk hl he]
  exact ⟨le_rfl, le_rfl⟩

/-- A trigger leaves an episode's 120 probes (42_synchronizer.md R273, R279). -/
theorem spends_losesSync {h : BitVec 32} {rest : List Byte} {s : State} (hd : HeaderDue s) :
    Spends 1 0 s { afterHeaderRead h rest s with st := .resyncing, probe := 0 } := by
  have same : payloadsLeft { afterHeaderRead h rest s with st := .resyncing, probe := 0 } = payloadsLeft s :=
    payloadsLeft_congr (not_idle_of_capturing (capturing_of_headerDue hd)) nofun rfl rfl rfl
  rw [Spends, headersLeft_due hd, headersLeft_resyncing rfl, same]
  exact ⟨by omega, le_rfl⟩

theorem spends_probe {h : BitVec 32} {rest : List Byte} {s : State} (hs : s.st = .resyncing)
    (hp : s.probe.toNat < 120) :
    Spends 1 0 s (afterProbeRead h rest s) := by
  have busy : s.st ≠ .idle := by rw [hs]; nofun
  have same : payloadsLeft (afterProbeRead h rest s) = payloadsLeft s := payloadsLeft_congr busy busy rfl rfl rfl
  have left : headersLeft (afterProbeRead h rest s) =
      121 * payloadsLeft (afterProbeRead h rest s) + (120 - (s.probe + 1).toNat) := headersLeft_resyncing hs
  have count : (s.probe + 1).toNat = s.probe.toNat + 1 := by bv_omega
  rw [Spends, left, headersLeft_resyncing hs, same, count]
  omega

/-- A new frame gives up the rest of its pass for one of the passes a skip may end (42_synchronizer.md R284, R285). -/
theorem spends_newFrame {h : BitVec 32} {rest : List Byte} {s : State} (hi : Inv s) (hs : s.st = .resyncing)
    (hp : s.probe.toNat < 120) : Spends 1 0 s (afterNewFrame h (afterProbeRead h rest s)) := by
  have hc := capturing_of_resyncing hs
  have enough := room_of_probe hs hp
  rcases afterNewFrame_cases h (afterProbeRead h rest s) with ⟨-, he⟩ | ⟨hne, he⟩ <;> rw [he]
  · exact spends_afterEnd _ _ (by omega) (Nat.zero_le _)
  · have hne : s.skip + 1 ≠ 5 := hne
    have hk := hi.skipIn hc
    have skipped : (s.skip + 1).toNat = s.skip.toNat + 1 := by bv_omega
    have more : s.skip.toNat < 4 := by bv_omega
    have room := hi.progress_le hc
    refine spends_afterMatch ?_ enough
    rw [payloadsLeft_busy (not_idle_of_capturing hc), payloadsLeft_afterMatch]
    show (4 - (s.skip + 1).toNat) * 62 + 63 ≤ _
    omega

/-! ## What a step spends -/

/-- What a step of a capture takes from the stream, and from the budgets: nothing, a header, or a payload. -/
inductive Reads (s t : State) : Prop
  | nothing (hr : t.stream = s.stream) (h : Spends 0 0 s t)
  | header (hr : s.stream.length = 4 + t.stream.length) (h : Spends 1 0 s t)
  | payload (hr : s.stream.length = 160 + t.stream.length) (h : Spends 0 1 s t)

theorem length_of_header {s : State} {h : BitVec 32} (hr : s.stream = headerBytes h ++ s.stream.drop 4) :
    s.stream.length = 4 + (s.stream.drop 4).length :=
  (congrArg List.length hr).trans List.length_append

theorem afterPayload_stream (s : State) : (afterPayload s).stream = s.stream := by
  rcases afterPayload_cases s with ⟨-, -, he⟩ | ⟨-, he⟩ <;> exact he ▸ rfl

theorem afterNewFrame_stream (h : BitVec 32) (s : State) : (afterNewFrame h s).stream = s.stream := by
  rcases afterNewFrame_cases h s with ⟨-, he⟩ | ⟨-, he⟩ <;> exact he ▸ rfl

/-- A payload step reads 160 bytes and advances one counter. -/
theorem reads_payload {s u : State} {pay : List Byte} (h : Inv s) (hs : s.st = .streaming) (hp : s.pend ≠ .none)
    (hy : pay.length = 160) (hr : s.stream = pay ++ u.stream) (hu : u.st = .streaming) (hk : u.skip = s.skip)
    (hn : u.line.toNat + u.tele.toNat = s.line.toNat + s.tele.toNat + 1) : Reads s (afterPayload u) :=
  .payload (by rw [afterPayload_stream, hr, List.length_append, hy]) (spends_payload h hs hp hu hk hn)

theorem line_advanced {s : State} (h : Inv s) (hp : s.pend = .img) :
    (s.line + 1).toNat + s.tele.toNat = s.line.toNat + s.tele.toNat + 1 := by
  rw [line_succ_toNat (h.pendImg hp).1]
  omega

theorem tele_advanced {s : State} (hw : inWindow s = true) :
    s.line.toNat + (s.tele + 1).toNat = s.line.toNat + s.tele.toNat + 1 := by
  obtain ⟨-, ht, -⟩ := (inWindow_iff s).mp hw
  bv_omega

/-- In a running capture every effect pays for what it reads. -/
theorem Effect.reads {i : Instr} {s t : State} (e : Effect s i t) (h : Inv s) (hs : s.st ≠ .idle) : Reads s t := by
  have same : Spends 0 0 s s := ⟨le_rfl, le_rfl⟩
  cases e
  case waits | answers | raises | startIgnored | acknowledged | irqEnabled => exact .nothing rfl same
  case start hq | mode hq _ | preflight hq => exact absurd hq hs
  case notBooted | exhausts => exact .nothing rfl (spends_afterEnd _ _ (Nat.zero_le _) (Nat.zero_le _))
  case allocates hq _ _ _ | frees hq _ _ _ | keeps hq _ _ => exact .nothing rfl (spends_start (.inl hq) rfl rfl rfl rfl)
  case synced hq _ _ => exact .nothing rfl (spends_start (.inr hq) hq rfl rfl rfl)
  case accepts hd _ hr _ =>
    exact .header (length_of_header hr)
      (spends_accept (capturing_of_headerDue hd) rfl rfl rfl (room_of_headerDue hd))
  case losesSync hd _ hr _ => exact .header (length_of_header hr) (spends_losesSync hd)
  case resumes hq hp _ hr _ =>
    exact .header (length_of_header hr)
      (spends_accept (capturing_of_resyncing hq) rfl rfl rfl (room_of_probe hq hp))
  case newFrame hq hp _ hr _ =>
    exact .header (by rw [afterNewFrame_stream]; exact length_of_header hr) (spends_newFrame h hq hp)
  case probes hq hp _ _ hr _ => exact .header (length_of_header hr) (spends_probe hq hp)
  case direct hq hp _ _ hy hr | slot hq hp _ _ hy hr | band hq hp _ _ hy hr =>
    exact reads_payload h hq (by rw [hp]; nofun) hy hr hq rfl (line_advanced h hp)
  case telemetry hq hp hy hr =>
    exact reads_payload h hq (by rw [hp]; nofun) hy hr hq rfl (tele_advanced (h.pendStore hp).1)
  case drops hq hp hy hr =>
    exact reads_payload h hq (by rw [hp]; nofun) hy hr hq rfl (tele_advanced (h.pendDrop hp).1)

/-- A move without an instruction reads nothing; a block reset ends the capture. -/
theorem spends_environment (x : Input) (s : State) : Spends 0 0 s (environment x s) := by
  cases x with
  | host _ _ | engine | header | stream _ | pulseDone => exact ⟨le_rfl, le_rfl⟩
  | reset => exact ⟨Nat.zero_le _, Nat.zero_le _⟩

/-- Only the engine's move takes bytes (log 1). -/
theorem bytesTaken_cases (s t : State) : bytesTaken s t = 0 ∨ bytesTaken s t = s.stream.length - t.stream.length := by
  unfold bytesTaken
  split
  · exact .inr rfl
  · exact .inr rfl
  · exact .inl rfl

theorem bytesTaken_environment {s : State} {x : Input} {rest : List Input} (hx : s.inputs = x :: rest) :
    bytesTaken s (environment x { s with inputs := rest }) = 0 := by
  rw [bytesTaken, hx]
  cases x with
  | engine | header => exact Nat.sub_self _
  | host _ _ | stream _ | pulseDone | reset => rfl

theorem Spends.of_zero {n : Nat} {s t : State} (hn : n = 0) (h : Spends 0 0 s t) :
    Spends (if n = Config.hdrBytes then 1 else 0) (if n = Config.payBytes then 1 else 0) s t := by
  rw [hn]
  exact h

/-- The bytes taken tell the two kinds of read apart. -/
theorem Reads.spends {s t : State} (r : Reads s t) :
    Spends (if bytesTaken s t = Config.hdrBytes then 1 else 0) (if bytesTaken s t = Config.payBytes then 1 else 0)
      s t := by
  rcases bytesTaken_cases s t with hn | hn
  · refine .of_zero hn ?_
    cases r with
    | nothing _ h => exact h
    | header _ h | payload _ h => exact h.weaken
  · cases r with
    | nothing hr h => exact .of_zero (by rw [hn, hr, Nat.sub_self]) h
    | header hr h =>
      rw [hn, hr, Nat.add_sub_cancel_right]
      exact h
    | payload hr h =>
      rw [hn, hr, Nat.add_sub_cancel_right]
      exact h

/-- The reads counted for a step of a capture are ones it pays for. -/
theorem step_spends {s t : State} (h : Inv s) (hs : s.st ≠ .idle) (he : step s = .next t) :
    Spends (if bytesTaken s t = Config.hdrBytes then 1 else 0) (if bytesTaken s t = Config.payBytes then 1 else 0)
      s t := by
  rcases step_cases he with rfl | ⟨x, rest, hx, ⟨i, -, e⟩ | rfl⟩
  · exact Reads.spends (.nothing rfl ⟨le_rfl, le_rfl⟩)
  · cases e.reads { h with } hs with
    | nothing hr hp => exact Reads.spends (.nothing hr hp)
    | header hr hp => exact Reads.spends (.header hr hp)
    | payload hr hp => exact Reads.spends (.payload hr hp)
  · exact .of_zero (bytesTaken_environment hx) (spends_environment x { s with inputs := rest })

/-! ## The bound -/

theorem readsOfCapture_idle {s : State} (hs : s.st = .idle) (n : Nat) : readsOfCapture n s = (0, 0) := by
  cases n with
  | zero => rfl
  | succ n => exact if_pos hs

/-- From a state of the invariant a run reads no more than is left in the budgets. -/
theorem readsOfCapture_le (n : Nat) (s : State) (h : Inv s) :
    (readsOfCapture n s).1 ≤ headersLeft s ∧ (readsOfCapture n s).2 ≤ payloadsLeft s := by
  induction n generalizing s with
  | zero => exact ⟨Nat.zero_le _, Nat.zero_le _⟩
  | succ n ih =>
    by_cases hs : s.st = .idle
    · rw [readsOfCapture_idle hs]
      exact ⟨Nat.zero_le _, Nat.zero_le _⟩
    · rw [readsOfCapture, if_neg hs]
      cases he : step s with
      | next t =>
        obtain ⟨hh, hp⟩ := step_spends h hs he
        obtain ⟨ih1, ih2⟩ := ih t (stepKeepsInv s t h he)
        exact ⟨(Nat.add_le_add_right ih1 _).trans hh, (Nat.add_le_add_right ih2 _).trans hp⟩
      | fault r => exact ⟨Nat.zero_le _, Nat.zero_le _⟩
      | refused r => exact ⟨Nat.zero_le _, Nat.zero_le _⟩

/-- Settles O59: at a capture's start 311 payloads are left, and for each of them and once more 121 headers. -/
theorem readsBounded : Obligations.ReadsBounded := by
  intro s n h hs
  have c : Cleared s := h.cleared hs
  have hp : payloadsLeft s = 311 := by
    rw [payloadsLeft_busy (by rcases hs with hs | hs <;> rw [hs] <;> nofun), c.skip, c.line, c.tele]
    rfl
  obtain ⟨headers, payloads⟩ := readsOfCapture_le n s h
  rw [headersLeft_start hs, hp] at headers
  rw [hp] at payloads
  exact ⟨headers.trans (by decide), payloads⟩

end Sys2Proof.Machine
end

section
/-! SUPPORT. Where a payload's bytes stand after it is stored (43_reassembly.md R311, R312, R318, R319): a RAM after
one write, and after a packet's header and payload in a row. -/

namespace Sys2Proof.Machine

/-! ## Reading a RAM that a step has written -/

/-- A RAM written once: the bytes given inside the range, every other byte as before. -/
theorem readByte_write (r : Ram) (off : Nat) (bytes : List Byte) (s : State) (a : Nat) :
    readByte r (setRam r ((ramCells r s).write off bytes) s) a =
      if off ≤ a ∧ a < off + bytes.length then bytes.getD (a - off) 0 else readByte r s a := by
  split
  · rename_i inside
    obtain ⟨k, rfl⟩ := Nat.exists_eq_add_of_le inside.1
    have hk : k < bytes.length := by omega
    rw [readByte_write_inside r off bytes s k hk, Nat.add_sub_cancel_left, List.getD_eq_getElem _ _ hk]
  · exact readByte_write_outside r off bytes s a (by omega)

theorem setRam_setRam (r : Ram) (m n : Memory) (s : State) : setRam r m (setRam r n s) = setRam r m s := by
  cases r <;> rfl

/-- A RAM written with a packet: its header, then its payload, and every other byte as before. -/
theorem readByte_write_packet (r : Ram) (off : Nat) (h : BitVec 32) {pay : List Byte} (hy : pay.length = 160)
    (s : State) (a : Nat) :
    readByte r (setRam r (((ramCells r s).write off (headerBytes h)).write (off + 4) pay) s) a =
      if off ≤ a ∧ a < off + 4 then (headerBytes h).getD (a - off) 0
      else if off + 4 ≤ a ∧ a < off + 164 then pay.getD (a - (off + 4)) 0
      else readByte r s a := by
  have payload := readByte_write r (off + 4) pay (setRam r ((ramCells r s).write off (headerBytes h)) s) a
  rw [ramCells_setRam_same, setRam_setRam, readByte_write, headerBytes_length, hy, Nat.add_assoc off 4 160] at payload
  rw [payload]
  by_cases inHeader : off ≤ a ∧ a < off + 4
  · rw [if_neg (by omega), if_pos inHeader, if_pos inHeader]
  · rw [if_neg inHeader, if_neg inHeader]

/-- The end of a PAYLOAD step keeps every RAM: its bytes are those of the state the payload was stored in. -/
theorem readByte_afterPayload (r : Ram) (s : State) (a : Nat) : readByte r (afterPayload s) a = readByte r s a :=
  readByte_congr r _ _ a (afterPayload_ramCells r s) (afterPayload_epoch s)

/-! ## Payloads -/

/-- The state with telemetry sub-packet 0 in TEL. -/
def telemetryStored (pay rest : List Byte) (s : State) : State :=
  { s with
    stream := rest
    tel := (s.tel.write 0 (headerBytes s.hdr)).write 4 pay
    tele := s.tele + 1 }

/-- Settles O44: the direct path writes the payload at its row of IMG, and the end of the step keeps the RAM. -/
theorem directLine : Obligations.DirectLine := by
  intro s pay rest hs hp hm hl hy hr
  have stored : storePayload pay { s with stream := rest } = .next (directStored pay rest s) :=
    (storeImage_direct pay rest s hp hm).trans (storeDirect_next pay _ hy hm hl)
  have img : (afterPayload (directStored pay rest s)).img = (directStored pay rest s).img :=
    afterPayload_ramCells .img _
  refine ⟨_, stepPayload_next pay rest s _ hs (hp ▸ nofun) hy hr stored, by rw [img]; rfl, fun a => ?_⟩
  have row := readByte_write .img (s.line.toNat * 160) pay s a
  rw [hy] at row
  exact (readByte_afterPayload .img (directStored pay rest s) a).trans row

/-- Settles O45: off a band's last line the scratch path writes header and payload at the line's slot of SCR. -/
theorem scratchLine : Obligations.ScratchLine := by
  intro s pay rest hs hp hm _ hk hy hr
  obtain ⟨-, he⟩ | ⟨hlast, -⟩ | ⟨hlast, -⟩ := storeScratch_cases pay rest s hy
  case inl =>
    have stored := (storeImage_scratch pay rest s hp hm).trans he
    have scr : (afterPayload { slotStored pay rest s with line := s.line + 1 }).scr = (slotStored pay rest s).scr :=
      afterPayload_ramCells .scr _
    refine ⟨_, stepPayload_next pay rest s _ hs (hp ▸ nofun) hy hr stored, by rw [scr]; rfl, fun a => ?_⟩
    exact (readByte_afterPayload .scr { slotStored pay rest s with line := s.line + 1 } a).trans
      (readByte_write_packet .scr _ s.hdr hy s a)
  all_goals exact absurd hlast hk

/-- Settles O47: sub-packet 0 writes header and payload from the start of TEL; the others only advance tele. -/
theorem telemetryPayloads : Obligations.TelemetryPayloads := by
  intro s pay rest hs hy hr
  obtain ⟨-, whenStored, whenDropped⟩ := storePayload_pend pay { s with stream := rest }
  refine ⟨fun hp => ?_, fun hp => stepPayload_next pay rest s _ hs (hp ▸ nofun) hy hr (whenDropped hp)⟩
  have stored : storePayload pay { s with stream := rest } = .next (telemetryStored pay rest s) :=
    (whenStored hp).trans (storeTelemetry_next pay _ hy)
  have tel : (afterPayload (telemetryStored pay rest s)).tel = (telemetryStored pay rest s).tel :=
    afterPayload_ramCells .tel _
  refine ⟨_, stepPayload_next pay rest s _ hs (hp ▸ nofun) hy hr stored, by rw [tel]; rfl, fun a => ?_⟩
  have packet := (readByte_afterPayload .tel (telemetryStored pay rest s) a).trans
    (readByte_write_packet .tel 0 s.hdr hy s a)
  by_cases inHeader : a < 4
  · simpa only [inHeader, Nat.zero_le, true_and, Nat.zero_add, Nat.sub_zero, if_true] using packet
  · simpa only [inHeader, Nat.not_lt.mp inHeader, Nat.zero_le, true_and, Nat.zero_add, if_false] using packet

end Sys2Proof.Machine
end

section
/-! SUPPORT. The downsampler (44_downsampler.md): the model's block sum and pixel as the formula of R341 with its bound
(R343), where the bytes of an output row stand (R347), and that IMG is only ever written a row's pixels at a time, so
that no pad byte is (R348). -/

namespace Sys2Proof.Machine

/-! ## Samples and block sums -/

theorem be16_toNat (hi lo : Byte) : (be16 hi lo).toNat = hi.toNat * 256 + lo.toNat := by
  rw [be16, BitVec.toNat_append, ← Nat.shiftLeft_add_eq_or_of_lt lo.isLt, Nat.shiftLeft_eq]

theorem ramWord_toNat (r : Ram) (s : State) (off : Nat) : (ramWord r s off).toNat = wordNat r s off :=
  be16_toNat _ _

theorem slotSample_eq (s : State) (i x : Nat) : slotSample s i x = wordNat .scr s (176 * i + 4 + 2 * x) :=
  ramWord_toNat _ _ _

theorem slotSample_le (s : State) (i x : Nat) : slotSample s i x ≤ 65535 := Nat.le_of_lt_succ (BitVec.isLt _)

/-- The sum over lists is R341's double sum. -/
theorem blockSum_eq_sum (s : State) (l c : Nat) :
    blockSum s l c = ∑ i ∈ Finset.range l, ∑ j ∈ Finset.range l, slotSample s i (c * l + j) := rfl

/-- Each of the l rows of a block sums l samples of at most 65535. -/
theorem blockSum_le (s : State) (l c : Nat) : blockSum s l c ≤ l * l * 65535 := by
  have lineSum (i : Nat) (_ : i ∈ Finset.range l) :
      ∑ j ∈ Finset.range l, slotSample s i (c * l + j) ≤ l * 65535 := by
    simpa using Finset.sum_le_card_nsmul (Finset.range l) _ 65535 fun j _ => slotSample_le s i (c * l + j)
  simpa [blockSum_eq_sum, Nat.mul_assoc] using Finset.sum_le_card_nsmul (Finset.range l) _ _ lineSum

/-- Settles O48: a block has at most 4 × 4 samples. -/
theorem blockSumFits : Obligations.BlockSumFits := by
  intro s m c
  have bound : blockSum s (lpb m) c ≤ lpb m * lpb m * 65535 := blockSum_le s (lpb m) c
  have samples : lpb m * lpb m ≤ 4 * 4 := Nat.mul_le_mul (lpb_le m) (lpb_le m)
  exact ⟨bound, by omega, by decide⟩

/-! ## Pixels -/

/-- The model's pixel is R341's: the sums agree, and the rescale of R345 is for 8-bit pixels without AGC8. -/
theorem bandPixel_eq_specPixel (s : State) (c : Nat) : bandPixel s c = specPixel s c := by
  have sums : blockSum s (lpb s.mode) c = ∑ i ∈ Finset.range (lpb s.mode), ∑ j ∈ Finset.range (lpb s.mode),
      wordNat .scr s (176 * i + 4 + 2 * (c * lpb s.mode + j)) := by
    simp only [blockSum_eq_sum, slotSample_eq]
  rw [bandPixel, sums, specPixel]
  rcases bpp_cases s.mode with hb | hb <;> cases agc8 s <;> simp [pixelOf, clampMax, hb]

theorem bandPixel_le (s : State) (c : Nat) : bandPixel s c ≤ clampMax (bpp s.mode) := Nat.min_le_right _ _

/-- The filter reads MODE, PREFLIGHT and SCR only (R340). -/
theorem bandPixel_congr {s t : State} (hm : t.mode = s.mode) (hp : t.preflight = s.preflight)
    (hr : ∀ a, readByte .scr t a = readByte .scr s a) (c : Nat) : bandPixel t c = bandPixel s c := by
  simp only [bandPixel, blockSum, slotSample, ramWord, agc8, hm, hp, hr]

/-! ## The bytes of a row -/

/-- Byte k of piece c lies in the first n pieces of b bytes each. -/
theorem piece_byte_lt {n b c k : Nat} (hc : c < n) (hk : k < b) : c * b + k < n * b := by
  simpa only [Nat.add_comm, Nat.mul_comm] using Nat.add_mul_lt_mul_of_lt_of_lt hk hc

/-- Byte k of piece c, in pieces of b bytes each. -/
theorem getD_flatMap_range {n b : Nat} {f : Nat → List Byte} (hf : ∀ c, (f c).length = b) {c k : Nat} (hc : c < n)
    (hk : k < b) (d : Byte) : ((List.range n).flatMap f).getD (c * b + k) d = (f c).getD k d := by
  induction n with
  | zero => exact absurd hc (Nat.not_lt_zero c)
  | succ n ih =>
    have len : ((List.range n).flatMap f).length = n * b := by simp [List.length_flatMap, hf]
    rw [List.range_succ, List.flatMap_append, List.flatMap_singleton]
    rcases Nat.lt_succ_iff_lt_or_eq.mp hc with before | rfl
    · rw [List.getD_append _ _ _ _ (len ▸ piece_byte_lt before hk), ih before]
    · rw [List.getD_append_right _ _ _ _ (by omega), len, Nat.add_sub_cancel_left]

/-- Byte k of pixel c of the row. -/
theorem bandBytes_getD (s : State) {c k : Nat} (hc : c < width s.mode) (hk : k < bpp s.mode) :
    (bandBytes s).getD (c * bpp s.mode + k) 0 = (pixelBytes (bpp s.mode) (bandPixel s c)).getD k 0 :=
  getD_flatMap_range (fun _ => pixelBytes_length _ _ (bpp_cases s.mode)) hc hk 0

/-- A 16-bit pixel is clamped to 14 bits, so its two bytes hold all of it. -/
theorem pixelBytes_two {v : Nat} (hv : v ≤ clampMax 2) :
    ((pixelBytes 2 v).getD 0 0).toNat * 256 + ((pixelBytes 2 v).getD 1 0).toNat = v := by
  have hv : v ≤ 0x3FFF := hv
  show (BitVec.ofNat 8 (v / 256)).toNat * 256 + (BitVec.ofNat 8 v).toNat = v
  rw [BitVec.toNat_ofNat, BitVec.toNat_ofNat]
  omega

theorem pixelBytes_one {v : Nat} (hv : v ≤ clampMax 1) : ((pixelBytes 1 v).getD 0 0).toNat = v := by
  have hv : v ≤ 0xFF := hv
  show (BitVec.ofNat 8 v).toNat = v
  rw [BitVec.toNat_ofNat]
  omega

/-- IMG with the row of u's band from an offset. -/
def withRow (off : Nat) (u s : State) : State := setRam .img ((ramCells .img s).write off (bandBytes u)) s

theorem readByte_withRow (off : Nat) (u s : State) {c k : Nat} (hc : c < width u.mode) (hk : k < bpp u.mode) :
    readByte .img (withRow off u s) (off + (c * bpp u.mode + k)) =
      (pixelBytes (bpp u.mode) (bandPixel u c)).getD k 0 := by
  have inside : c * bpp u.mode + k < width u.mode * bpp u.mode := piece_byte_lt hc hk
  rw [withRow, readByte_write, bandBytes_length, if_pos ⟨by omega, by omega⟩, Nat.add_sub_cancel_left,
    bandBytes_getD u hc hk]

/-- Pixel c stands in the row, in the byte order of R347. -/
theorem withRow_pixel (off : Nat) (u s : State) {c : Nat} (hc : c < width u.mode) :
    if bpp u.mode = 2 then
      (readByte .img (withRow off u s) (off + 2 * c)).toNat * 256 +
        (readByte .img (withRow off u s) (off + 2 * c + 1)).toNat = bandPixel u c
    else (readByte .img (withRow off u s) (off + c)).toNat = bandPixel u c := by
  have byte := fun k => readByte_withRow off u s (k := k) hc
  have clamped := bandPixel_le u c
  rcases bpp_cases u.mode with hb | hb <;> rw [hb] at byte clamped ⊢
  · have low := byte 0 (by decide)
    rw [Nat.mul_one, Nat.add_zero] at low
    rw [if_neg (by decide), low, pixelBytes_one clamped]
  · have high := byte 0 (by decide)
    have low := byte 1 (by decide)
    rw [Nat.add_zero, Nat.mul_comm] at high
    rw [← Nat.add_assoc, Nat.mul_comm c] at low
    rw [if_pos rfl, high, low, pixelBytes_two clamped]

/-! ## The last line of a band -/

/-- The state with the last packet of a band in its slot and the band's row in IMG, both counters advanced. -/
def bandStored (pay rest : List Byte) (s : State) : State :=
  { slotStored pay rest s with
    img := s.img.write (rowOffset s.mode (s.line.toNat / lpb s.mode)) (bandBytes (slotStored pay rest s))
    line := s.line + 1
    outRow := s.outRow + 1 }

theorem storePayload_band {s : State} {pay : List Byte} (rest : List Byte) (hp : s.pend = .img)
    (hm : s.mode ≠ .m80x60x16) (hl : s.line.toNat < 60) (hk : slotOf s = lpb s.mode - 1) (hy : pay.length = 160) :
    storePayload pay { s with stream := rest } = .next (bandStored pay rest s) := by
  obtain ⟨inside, -⟩ | ⟨-, he⟩ | ⟨-, outside, -⟩ := storeScratch_cases pay rest s hy
  · exact absurd hk inside
  · exact (storeImage_scratch pay rest s hp hm).trans he
  · exact absurd (row_fits s.mode (band_lt_height s.mode hl)) (Nat.not_le_of_lt outside)

/-- Settles O46: the packet goes to its slot of SCR, the row made of the slots as they then stand goes to IMG, and the
end of the step keeps both RAMs and what the filter reads. -/
theorem bandRow : Obligations.BandRow := by
  intro s pay rest hs hp hm hl hk hy hr base row
  have img : (afterPayload (bandStored pay rest s)).img = (bandStored pay rest s).img := afterPayload_ramCells .img _
  have scr : (afterPayload (bandStored pay rest s)).scr = (bandStored pay rest s).scr := afterPayload_ramCells .scr _
  have config : ConfigKept s (afterPayload (bandStored pay rest s)) :=
    .of_payload ⟨rfl, rfl, rfl, rfl, rfl, rfl, rfl, rfl, .inl rfl⟩ rfl
  have slots (a : Nat) : readByte .scr (afterPayload (bandStored pay rest s)) a =
      readByte .scr (slotStored pay rest s) a :=
    readByte_afterPayload .scr (bandStored pay rest s) a
  have rowStands (a : Nat) : readByte .img (afterPayload (bandStored pay rest s)) a =
      readByte .img (withRow row (slotStored pay rest s) s) a :=
    readByte_afterPayload .img (bandStored pay rest s) a
  refine ⟨_, stepPayload_next pay rest s _ hs (hp ▸ nofun) hy hr (storePayload_band rest hp hm hl hk hy),
    by rw [img, scr]; rfl, fun a => ?_, fun c hc => ?_, fun a ha => ?_⟩
  · exact (slots a).trans (readByte_write_packet .scr base s.hdr hy s a)
  · rw [← bandPixel_eq_specPixel, bandPixel_congr (s := slotStored pay rest s) config.mode config.preflight slots]
    simp only [rowStands]
    exact withRow_pixel row (slotStored pay rest s) s hc
  · rw [rowStands, withRow]
    exact readByte_write_outside .img row _ s a (by rwa [bandBytes_length])

/-! ## Pad bytes -/

/-- Every write of IMG is the pixel bytes of one row. -/
theorem Effect.img_cases {s t : State} {i : Instr} (e : Effect s i t) :
    ramCells .img t = ramCells .img s ∨
    ∃ q bytes, bytes.length = width s.mode * bpp s.mode ∧
      ramCells .img t = (ramCells .img s).write (rowOffset s.mode q) bytes := by
  cases e
  case direct pay rest _ _ hm _ hy _ =>
    exact .inr ⟨s.line.toNat, pay, by rw [hy, hm]; rfl, (afterPayload_ramCells _ _).trans (by rw [hm]; rfl)⟩
  case band pay rest _ _ _ _ _ _ =>
    exact .inr ⟨_, _, bandBytes_length (slotStored pay rest s), afterPayload_ramCells _ _⟩
  case slot | telemetry | drops => exact .inl (afterPayload_ramCells _ _)
  case newFrame => exact .inl (afterNewFrame_ramCells _ _ _)
  all_goals exact .inl rfl

/-- A pad byte of row r lies outside the pixels of every row. -/
theorem pad_outside_row {m : StorageMode} {r a : Nat} (ha : r * pitch m + width m * bpp m ≤ a)
    (hb : a < (r + 1) * pitch m) (q : Nat) : a < rowOffset m q ∨ rowOffset m q + width m * bpp m ≤ a := by
  rw [rowOffset]
  rcases Nat.lt_or_ge r q with later | notLater
  · exact .inl (hb.trans_le (Nat.mul_le_mul_right _ later))
  · exact .inr ((Nat.add_le_add_right (Nat.mul_le_mul_right _ notLater) _).trans ha)

/-- Settles O49: what an instruction writes to IMG is the pixels of a row, and no row's pixels hold a pad byte. -/
theorem padBytesStay : Obligations.PadBytesStay := by
  intro i s t r a he ha hb
  have e := exec_effect i s t he
  rcases e.img_cases with same | ⟨q, bytes, hlen, written⟩
  · exact readByte_congr .img t s a same e.epoch
  · calc readByte .img t a
        = readByte .img (setRam .img ((ramCells .img s).write (rowOffset s.mode q) bytes) s) a :=
          readByte_congr .img _ _ a written e.epoch
      _ = readByte .img s a := readByte_write_outside .img _ _ s a (by rw [hlen]; exact pad_outside_row ha hb q)

end Sys2Proof.Machine
end

section
/-! SUPPORT. The telemetry decoder (45_telemetry_decoder.md): what a decoded register answers where the buffer is
populated, and that every field is a view of buffer words 2..81 alone, whatever the legal layout (R364, R398). -/

namespace Sys2Proof.Machine

/-! ## Reads of a populated buffer -/

/-- The checks of 41_host_interface.md R223 pass: the block is idle, and the buffer is allocated and populated. -/
theorem readTelemetry_of_populated {s : State} (hs : s.st = .idle) (ht : s.tbufAlloc = true)
    (hq : readByte .tel s 0 ≠ 0x0F) (a v : Word) : readTelemetry a v s = .next (afterAnswer v s) := by
  have noSentinel : ¬sentinel s = true := fun h => hq (of_decide_eq_true h)
  rw [readTelemetry, ite_idle hs, if_neg (not_not_intro ht), if_neg noSentinel, answer_eq]

/-- The word order of a 32-bit field (45_telemetry_decoder.md R361). -/
theorem teleDword_eq_ite (l : TeleLayout) (s : State) (k : Nat) :
    teleDword l s k = if l.order32 = .lswFirst then teleWord s (k + 1) ++ teleWord s k
      else teleWord s k ++ teleWord s (k + 1) := by
  rw [teleDword]
  cases l.order32 <;> rfl

/-- T_FLAGS bit by bit from the status words (45_telemetry_decoder.md R369). -/
theorem fieldFlags_bits (l : TeleLayout) (s : State) :
    let status := teleDword l s (bufferWord l.status)
    (fieldFlags l s).getLsbD 0 = status.getLsbD l.ffcDesired ∧
      (fieldFlags l s).getLsbD 1 = status.getLsbD l.ffcState ∧
      (fieldFlags l s).getLsbD 2 = status.getLsbD (l.ffcState + 1) ∧
      (fieldFlags l s).getLsbD 3 = status.getLsbD l.agc ∧
      (fieldFlags l s).getLsbD 4 = status.getLsbD l.shutdown := by
  simp only [fieldFlags, BitVec.getLsbD_append, BitVec.getLsbD_extractLsb', Nat.reduceSub, Nat.reduceLT, if_false,
    if_true, decide_true, Bool.true_and, Nat.add_zero, bit_getLsbD_zero, and_self]

/-- T_FLAGS has five flags; the bits above them are 0 (45_telemetry_decoder.md R369). -/
theorem fieldFlags_upper (l : TeleLayout) (s : State) {k : Nat} (hk : 5 ≤ k) : (fieldFlags l s).getLsbD k = false := by
  rw [fieldFlags]
  simp only [BitVec.getLsbD_append, BitVec.getLsbD_zero]
  rw [if_neg (by omega), if_neg (by omega), if_neg (by omega), if_neg (by omega)]

/-- Settles O29: each register answers its field, and a field is the word at its place counted from buffer word 2. -/
theorem revisionAndSerialReads : Obligations.RevisionAndSerialReads := by
  intro s hs ht hq
  have answers (a v : Word) : readTelemetry a v s = .next (afterAnswer v s) :=
    readTelemetry_of_populated hs ht hq a v
  have serial (n : Nat) (a : Word) : readTelemetry a (fieldSerial Config.teleLayout s n) s =
      .next (afterAnswer (ramWord .tel s (2 * (Config.teleLayout.serial + 2 + n))) s) := answers _ _
  have swrev (n : Nat) (a : Word) : readTelemetry a (fieldSwrev Config.teleLayout s n) s =
      .next (afterAnswer (ramWord .tel s (2 * (Config.teleLayout.swrev + 2 + n))) s) := answers _ _
  exact ⟨answers _ _, answers _ _, serial 0 _, serial 1 _, serial 2 _, serial 3 _, serial 4 _, serial 5 _, serial 6 _,
    serial 7 _, swrev 0 _, swrev 1 _, swrev 2 _, swrev 3 _⟩

/-- Settles O30: the layout's word order decides the 32-bit fields, and T_FLAGS is a concatenation of bits of one. -/
theorem doubleWordReads : Obligations.DoubleWordReads := by
  intro s hs ht hq l w dw status
  have answers (a v : Word) : readTelemetry a v s = .next (afterAnswer v s) :=
    readTelemetry_of_populated hs ht hq a v
  have dword (k : Nat) : teleDword l s k = dw k := teleDword_eq_ite l s k
  have flags := fieldFlags_bits l s
  simp only [bufferWord, dword] at flags
  obtain ⟨desired, stateLow, stateHigh, agc, shutdown⟩ := flags
  refine ⟨?_, ?_, ?_, ?_, fieldFlags l s, answers _ _, desired, stateLow, stateHigh, agc, shutdown,
    fun k hk => fieldFlags_upper l s hk⟩ <;> rw [← dword] <;> exact answers _ _

/-- Settles O31: each register answers its field, and a field is the word at its place counted from buffer word 2. -/
theorem wordFieldReads : Obligations.WordFieldReads := by
  intro s hs ht hq
  have word (p : Nat) (a : Word) :
      readTelemetry a (fieldWord s p) s = .next (afterAnswer (ramWord .tel s (2 * (p + 2))) s) :=
    readTelemetry_of_populated hs ht hq a _
  have roi (n : Nat) (a : Word) : readTelemetry a (fieldRoi Config.teleLayout s n) s =
      .next (afterAnswer (ramWord .tel s (2 * (Config.teleLayout.roi + 2 + n))) s) :=
    readTelemetry_of_populated hs ht hq a _
  exact ⟨word _ _, word _ _, word _ _, word _ _, word _ _, roi 0 _, roi 1 _, roi 2 _, roi 3 _, word _ _, word _ _,
    word _ _⟩

/-! ## Views of the payload words -/

/-- Two telemetry buffers agree outside buffer words 0 and 1, the header (45_telemetry_decoder.md R361). -/
def SamePayload (s t : State) : Prop := ∀ a, 4 ≤ a → a < 164 → readByte .tel t a = readByte .tel s a

/-- What is read from buffer words 2..81 alone. -/
def PayloadView {α : Type} (f : State → α) : Prop := ∀ s t, SamePayload s t → f t = f s

theorem PayloadView.map {α β : Type} {f : State → α} (hf : PayloadView f) (g : α → β) :
    PayloadView fun s => g (f s) :=
  fun s t same => congrArg g (hf s t same)

theorem payloadView_teleWord {k : Nat} (hlo : 2 ≤ k) (hhi : k < 82) : PayloadView (teleWord · k) := by
  intro s t same
  exact congrArg₂ be16 (same (2 * k) (by omega) (by omega)) (same (2 * k + 1) (by omega) (by omega))

theorem payloadView_teleDword (l : TeleLayout) {k : Nat} (hlo : 2 ≤ k) (hhi : k < 81) :
    PayloadView (teleDword l · k) := by
  intro s t same
  have first : teleWord t k = teleWord s k := payloadView_teleWord hlo (by omega) s t same
  have second : teleWord t (k + 1) = teleWord s (k + 1) := payloadView_teleWord (by omega) (by omega) s t same
  simp only [teleDword_eq_ite, first, second]

/-- A field of several words ends inside the buffer (45_telemetry_decoder.md R364). -/
theorem payloadView_placed {p n : Nat} (h : p + n < 80) : PayloadView fun s => teleWord s (bufferWord p + n) :=
  payloadView_teleWord (by rw [bufferWord]; omega) (by rw [bufferWord]; omega)

theorem payloadView_fieldWord (p : Fin 80) : PayloadView (fieldWord · p) := payloadView_placed (n := 0) p.isLt

section
variable (l : TeleLayout)

theorem payloadView_fieldRevMajor : PayloadView (fieldRevMajor l) :=
  (payloadView_fieldWord l.rev).map fun w => if l.revMajorHi then highByte w else lowByte w

theorem payloadView_fieldRevMinor : PayloadView (fieldRevMinor l) :=
  (payloadView_fieldWord l.rev).map fun w => if l.revMajorHi then lowByte w else highByte w

/-- A 32-bit field ends inside the buffer (45_telemetry_decoder.md R364). -/
theorem payloadView_placedDword (p : Fin 79) : PayloadView (teleDword l · (bufferWord p)) :=
  payloadView_teleDword l (by rw [bufferWord]; omega) (by rw [bufferWord]; omega)

theorem payloadView_fieldUptime : PayloadView (fieldUptime l) := payloadView_placedDword l l.uptime

theorem payloadView_fieldFrameCnt : PayloadView (fieldFrameCnt l) := payloadView_placedDword l l.frameCnt

theorem payloadView_fieldFlags : PayloadView (fieldFlags l) :=
  (payloadView_placedDword l l.status).map fun w =>
    0#11 ++ bit (w.getLsbD l.shutdown) ++ bit (w.getLsbD l.agc) ++ w.extractLsb' l.ffcState 2 ++
      bit (w.getLsbD l.ffcDesired)

theorem payloadView_fieldSerial (n : Fin 8) : PayloadView (fieldSerial l · n) :=
  payloadView_placed (p := l.serial) (by omega)

theorem payloadView_fieldSwrev (n : Fin 4) : PayloadView (fieldSwrev l · n) :=
  payloadView_placed (p := l.swrev) (by omega)

theorem payloadView_fieldRoi (n : Fin 4) : PayloadView (fieldRoi l · n) :=
  payloadView_placed (p := l.roi) (by omega)

end

/-- Every decoded register reads a view of the payload words, in the order of the table. -/
theorem exec_fieldRead_view {r : Word × Instr} (hr : r ∈ teleRows) :
    ∃ f, PayloadView f ∧ ∀ s, exec r.2 s = readTelemetry r.1 (f s) s := by
  have uptime := payloadView_fieldUptime Config.teleLayout
  have frameCnt := payloadView_fieldFrameCnt Config.teleLayout
  have serial := payloadView_fieldSerial Config.teleLayout
  have swrev := payloadView_fieldSwrev Config.teleLayout
  have roi := payloadView_fieldRoi Config.teleLayout
  fin_cases hr
  exacts [⟨_, payloadView_fieldRevMajor _, fun _ => rfl⟩, ⟨_, payloadView_fieldRevMinor _, fun _ => rfl⟩,
    ⟨_, uptime.map lowHalf, fun _ => rfl⟩, ⟨_, uptime.map highHalf, fun _ => rfl⟩,
    ⟨_, payloadView_fieldFlags _, fun _ => rfl⟩,
    ⟨_, serial 0, fun _ => rfl⟩, ⟨_, serial 1, fun _ => rfl⟩, ⟨_, serial 2, fun _ => rfl⟩,
    ⟨_, serial 3, fun _ => rfl⟩, ⟨_, serial 4, fun _ => rfl⟩, ⟨_, serial 5, fun _ => rfl⟩,
    ⟨_, serial 6, fun _ => rfl⟩, ⟨_, serial 7, fun _ => rfl⟩,
    ⟨_, swrev 0, fun _ => rfl⟩, ⟨_, swrev 1, fun _ => rfl⟩, ⟨_, swrev 2, fun _ => rfl⟩, ⟨_, swrev 3, fun _ => rfl⟩,
    ⟨_, frameCnt.map lowHalf, fun _ => rfl⟩, ⟨_, frameCnt.map highHalf, fun _ => rfl⟩,
    ⟨_, payloadView_fieldWord _, fun _ => rfl⟩, ⟨_, payloadView_fieldWord _, fun _ => rfl⟩,
    ⟨_, payloadView_fieldWord _, fun _ => rfl⟩, ⟨_, payloadView_fieldWord _, fun _ => rfl⟩,
    ⟨_, payloadView_fieldWord _, fun _ => rfl⟩,
    ⟨_, roi 0, fun _ => rfl⟩, ⟨_, roi 1, fun _ => rfl⟩, ⟨_, roi 2, fun _ => rfl⟩, ⟨_, roi 3, fun _ => rfl⟩,
    ⟨_, payloadView_fieldWord _, fun _ => rfl⟩, ⟨_, payloadView_fieldWord _, fun _ => rfl⟩,
    ⟨_, payloadView_fieldWord _, fun _ => rfl⟩]

/-- Settles O32: both reads refuse alike where the block is busy or the buffer is not allocated (O28), and else both
answer the same view of the payload words. -/
theorem fieldsIgnoreHeaderWords : Obligations.FieldsIgnoreHeaderWords := by
  intro s t hst same hqs hqt r hr u v hu hv
  have stEq : t.st = s.st := (congrArg State.st hst).trans rfl
  have allocEq : t.tbufAlloc = s.tbufAlloc := (congrArg State.tbufAlloc hst).trans rfl
  obtain ⟨busyS, freeS, -⟩ := telemetryReadErrors s r hr
  obtain ⟨busyT, freeT, -⟩ := telemetryReadErrors t r hr
  by_cases hs : s.st = .idle
  · cases ha : s.tbufAlloc with
    | false =>
      obtain rfl := Host.Outcome.next.inj ((freeS hs ha).symm.trans hu)
      obtain rfl := Host.Outcome.next.inj ((freeT (stEq.trans hs) (allocEq.trans ha)).symm.trans hv)
      rfl
    | true =>
      obtain ⟨f, view, reads⟩ := exec_fieldRead_view hr
      rw [reads, readTelemetry_of_populated hs ha hqs] at hu
      rw [reads, readTelemetry_of_populated (stEq.trans hs) (allocEq.trans ha) hqt, view s t same] at hv
      obtain rfl := Host.Outcome.next.inj hu
      obtain rfl := Host.Outcome.next.inj hv
      rfl
  · obtain rfl := Host.Outcome.next.inj ((busyS hs).symm.trans hu)
    obtain rfl := Host.Outcome.next.inj ((busyT (fun idle => hs (stEq.symm.trans idle))).symm.trans hv)
    rfl

end Sys2Proof.Machine
end

section
/-! SUPPORT. Bus errors and the machine's progress (60_exceptions.md): the order of the host's checks (R406), that no
engine step stops from the invariant and every access is answered (R400), and irq as a level (R410). -/

namespace Sys2Proof.Machine

/-! ## The decoder's answer by region, for the registers of a table -/

theorem decodeHost_tfield_read {a : Word} (h : InRegion .tfield a.toNat) (d : Word) :
    ∃ r ∈ teleRows, r.1 = a ∧ decodeHost (readT a) d = r.2 := by
  obtain ⟨r, hr, ha, hf⟩ := teleRows_find? h
  exact ⟨r, hr, ha, by simp [decodeHost, (region_eq_iff a .tfield).mpr h, hf]⟩

theorem decodeHost_control {a : Word} (h : InRegion .control a.toNat) (d : Word) :
    ∃ r ∈ controlRows, r.1 = a ∧ decodeHost (readT a) d = r.2.1 ∧ decodeHost (writeT a) d = r.2.2 d := by
  obtain ⟨r, hr, ha, hf⟩ := controlRows_find? h
  refine ⟨r, hr, ha, ?_, ?_⟩ <;> simp [decodeHost, (region_eq_iff a .control).mpr h, hf]

/-- The write rows of the control registers: five that mean something, and the read-only ones (41_host_interface.md
R230). -/
inductive ControlWrite : Word → (Word → Instr) → Prop
  | ctrl : ControlWrite 0x0000 .wrCtrl
  | mode : ControlWrite 0x0002 .wrMode
  | preflight : ControlWrite 0x0004 .wrPreflight
  | events : ControlWrite 0x0008 .wrEvents
  | irqEn : ControlWrite 0x000A .wrIrqEn
  | readOnly (a : Word) (w : Word → Instr) (ha : a.toNat = 0x0006 ∨ 0x000C ≤ a.toNat)
      (he : ∀ d s, exec (w d) s = raiseBusError .readOnly a s) : ControlWrite a w

theorem controlRows_write {r : Word × Instr × (Word → Instr)} (hr : r ∈ controlRows) : ControlWrite r.1 r.2.2 := by
  have high {a : Word} {w : Word → Instr} (ha : 0x000C ≤ a.toNat)
      (he : ∀ d s, exec (w d) s = raiseBusError .readOnly a s) : ControlWrite a w := .readOnly a w (.inr ha) he
  fin_cases hr
  · exact .ctrl
  · exact .mode
  · exact .preflight
  · exact .readOnly _ _ (.inl rfl) fun _ _ => rfl
  · exact .events
  · exact .irqEn
  all_goals exact high (by decide) fun _ _ => rfl

/-! ## The checks by region -/

section
variable (a d : Word) (s : State)

theorem hostCheck_misaligned (rw : Bool) (h : InRegion .misaligned a.toNat) :
    hostCheck rw a d s = some .misaligned := if_pos h

theorem hostCheck_unmapped (rw : Bool) (h : InRegion .unmapped a.toNat) : hostCheck rw a d s = some .unmapped := by
  simp only [InRegion] at h
  rw [hostCheck, if_neg (by omega), if_pos (by omega)]

theorem hostCheck_write_window (h : InRegion .img a.toNat ∨ InRegion .traw a.toNat ∨ InRegion .tfield a.toNat) :
    hostCheck true a d s = some .readOnly := by
  simp only [InRegion] at h
  rw [hostCheck, if_neg (by omega), if_neg (by omega), if_pos rfl, if_pos (by omega)]

theorem hostCheck_write_control (h : InRegion .control a.toNat) :
    hostCheck true a d s =
      if a.toNat = 0x0006 ∨ 0x000C ≤ a.toNat then some .readOnly
      else if (a.toNat = 0x0002 ∨ a.toNat = 0x0004) ∧ s.st ≠ .idle then some .locked
      else if a.toNat = 0x0002 ∧ 5 < d.toNat % 8 then some .illegalValue
      else none := by
  obtain ⟨heven, hhi⟩ := h
  rw [hostCheck, if_neg (by omega), if_neg (by omega), if_pos rfl]
  refine ite_congr (propext ?_) (fun _ => rfl) fun _ => rfl
  omega

theorem hostCheck_read_control (h : InRegion .control a.toNat) : hostCheck false a d s = none := by
  obtain ⟨heven, hhi⟩ := h
  rw [hostCheck, if_neg (by omega), if_neg (by omega), if_neg Bool.false_ne_true, if_neg (by omega), if_neg (by omega),
    if_neg (by omega), if_neg (by omega)]

theorem hostCheck_read_img (h : InRegion .img a.toNat) :
    hostCheck false a d s =
      if s.st ≠ .idle then some .unavailable
      else if total s.mode ≤ a.toNat - 0x4000 + 1 then some .outOfRange
      else none := by
  obtain ⟨heven, hin⟩ := h
  have traw : ¬(0x0200 ≤ a.toNat ∧ a.toNat ≤ 0x02A2) := by omega
  have tfield : ¬(0x0100 ≤ a.toNat ∧ a.toNat ≤ 0x013C) := by omega
  rw [hostCheck, if_neg (by omega), if_neg (by omega), if_neg Bool.false_ne_true]
  simp only [eq_true hin, eq_false traw, eq_false tfield, true_or, true_and, or_self, false_and, if_false]

theorem hostCheck_read_traw (h : InRegion .traw a.toNat) :
    hostCheck false a d s =
      if s.st ≠ .idle then some .unavailable
      else if s.tbufAlloc = false then some .unavailable
      else none := by
  obtain ⟨heven, hin⟩ := h
  have img : ¬(0x4000 ≤ a.toNat ∧ a.toNat ≤ 0x657E) := by omega
  have tfield : ¬(0x0100 ≤ a.toNat ∧ a.toNat ≤ 0x013C) := by omega
  rw [hostCheck, if_neg (by omega), if_neg (by omega), if_neg Bool.false_ne_true]
  simp only [eq_true hin, eq_false img, eq_false tfield, true_or, or_true, true_and, false_and, if_false]

theorem hostCheck_read_tfield (h : InRegion .tfield a.toNat) :
    hostCheck false a d s =
      if s.st ≠ .idle then some .unavailable
      else if s.tbufAlloc = false then some .unavailable
      else if readByte .tel s 0 = 0x0F then some .notReady
      else none := by
  obtain ⟨heven, hin⟩ := h
  have img : ¬(0x4000 ≤ a.toNat ∧ a.toNat ≤ 0x657E) := by omega
  rw [hostCheck, if_neg (by omega), if_neg (by omega), if_neg Bool.false_ne_true]
  simp only [eq_true hin, eq_false img, or_true, true_and, false_and, if_false]

end

/-! ## A transaction against its check -/

/-- The outcome of an access is what its check says: the bus error at its address, or an answer OKAY, a write's with
rdata 0 (60_exceptions.md R406; 30_encoding.md R150). -/
def Follows (rw : Bool) (a : Word) (s : State) (check : Option BusError) (o : Out) : Prop :=
  match check with
  | some c => o = .next (afterBusError (causeCode c) a s)
  | none => ∃ (u : State) (v : Word), o = .next u ∧ u.response = some { resp := .okay, rdata := v } ∧
      (rw = true → v = 0)

section
variable {rw : Bool} {a : Word} {s : State} {o : Out}

theorem Follows.goes_on {check : Option BusError} (h : Follows rw a s check o) : ∃ t, o = .next t := by
  cases check with
  | some c => exact ⟨_, h⟩
  | none =>
    obtain ⟨u, -, hu, -⟩ := h
    exact ⟨u, hu⟩

theorem follows_read (v : Word) (s u : State) : Follows false a s none (.next (afterAnswer v u)) :=
  ⟨_, v, rfl, rfl, nofun⟩

theorem follows_write (s u : State) : Follows true a s none (.next (afterAnswer 0 u)) := ⟨_, 0, rfl, rfl, fun _ => rfl⟩

end

section
variable {a : Word} (s : State)

/-- A read of IMG: the outcomes of `imgRead` stand in the order of its checks (41_host_interface.md R221). -/
theorem img_read_follows (h : InRegion .img a.toNat) (d : Word) :
    Follows false a s (hostCheck false a d s) (exec (decodeHost (readT a) d) s) := by
  rw [hostCheck_read_img a d s h]
  obtain ⟨heven, hlo, hhi⟩ := h
  obtain ⟨hdec, hbusy, hend, hok⟩ := imgRead s a d heven hlo hhi
  rw [hdec]
  split_ifs with hs ht
  · exact hbusy hs
  · exact hend (not_not.mp hs) ht
  · rw [hok (not_not.mp hs) (Nat.lt_of_not_le ht)]
    exact follows_read _ s s

/-- A read of TRAW, by `trawRead` (41_host_interface.md R222). -/
theorem traw_read_follows (h : InRegion .traw a.toNat) (d : Word) :
    Follows false a s (hostCheck false a d s) (exec (decodeHost (readT a) d) s) := by
  rw [hostCheck_read_traw a d s h]
  obtain ⟨heven, hlo, hhi⟩ := h
  obtain ⟨hdec, hbusy, hfree, hok⟩ := trawRead s a d heven hlo hhi
  rw [hdec]
  split_ifs with hs ht
  · exact hbusy hs
  · exact hfree (not_not.mp hs) ht
  · rw [hok (not_not.mp hs) (Bool.eq_true_of_not_eq_false ht)]
    exact follows_read _ s s

/-- A read of a decoded telemetry register, by `telemetryReadErrors` (41_host_interface.md R223). -/
theorem tfield_read_follows (h : InRegion .tfield a.toNat) (d : Word) :
    Follows false a s (hostCheck false a d s) (exec (decodeHost (readT a) d) s) := by
  rw [hostCheck_read_tfield a d s h]
  obtain ⟨r, hr, rfl, hdec⟩ := decodeHost_tfield_read h d
  obtain ⟨hbusy, hfree, hsentinel⟩ := telemetryReadErrors s r hr
  rw [hdec]
  split_ifs with hs ht hq
  · exact hbusy hs
  · exact hfree (not_not.mp hs) ht
  · exact hsentinel (not_not.mp hs) (Bool.eq_true_of_not_eq_false ht) hq
  · obtain ⟨v, hv⟩ := exec_fieldRead hr s
    rw [hv, readTelemetry_of_populated (not_not.mp hs) (Bool.eq_true_of_not_eq_false ht) hq]
    exact follows_read v s s

/-- A read of a control register never raises (41_host_interface.md R201 to R229). -/
theorem control_read_follows (h : InRegion .control a.toNat) (d : Word) :
    Follows false a s (hostCheck false a d s) (exec (decodeHost (readT a) d) s) := by
  rw [hostCheck_read_control a d s h]
  obtain ⟨r, hr, rfl, hdec, -⟩ := decodeHost_control h d
  obtain ⟨v, hv⟩ := exec_controlRead hr s
  rw [hdec, hv]
  exact follows_read v s s

theorem wrCtrl_follows (d : Word) : Follows true a s none (exec (.wrCtrl d) s) := by
  obtain ⟨-, hquiet, hstart, hignored⟩ := ctrlWrite s d
  cases hd : d.getLsbD 0 with
  | false => exact hquiet hd ▸ follows_write s s
  | true =>
    by_cases hs : s.st = .idle
    · exact hstart hd hs ▸ follows_write s _
    · exact hignored hd hs ▸ follows_write s _

/-- The MODE values that are not illegal stand for modes (40_geometry.md R180). -/
theorem exists_modeCode {b : BitVec 3} (h : ¬5 < b.toNat) : ∃ m, b = modeCode m := by
  have codes : ∀ b : BitVec 3, ¬5 < b.toNat →
      b ∈ [StorageMode.m80x60x16, .m80x60x8, .m40x30x16, .m40x30x8, .m20x15x16, .m20x15x8].map modeCode := by decide
  obtain ⟨m, -, hm⟩ := List.mem_map.mp (codes b h)
  exact ⟨m, hm.symm⟩

/-- A write of MODE is tested for the lock before its value (41_host_interface.md R202, R203). -/
theorem wrMode_follows (d : Word) :
    Follows true 0x0002 s
      (if s.st ≠ .idle then some .locked else if 5 < d.toNat % 8 then some .illegalValue else none)
      (exec (.wrMode d) s) := by
  obtain ⟨-, -, hlegal, hillegal, -, hlocked⟩ := configurationWrites s d
  split_ifs with hs hd
  · exact (hlocked hs).1
  · exact hillegal (not_not.mp hs) hd
  · have hcode : ¬5 < (d.extractLsb' 0 3).toNat := by rwa [BitVec.extractLsb'_toNat, Nat.shiftRight_zero]
    obtain ⟨m, hm⟩ := exists_modeCode hcode
    exact hlegal m (not_not.mp hs) hm ▸ follows_write s _

theorem wrPreflight_follows (d : Word) :
    Follows true 0x0004 s (if s.st ≠ .idle then some .locked else none) (exec (.wrPreflight d) s) := by
  obtain ⟨-, -, -, -, hidle, hlocked⟩ := configurationWrites s d
  split_ifs with hs
  · exact (hlocked hs).2
  · exact hidle (not_not.mp hs) ▸ follows_write s _

/-- A write row of the control registers against the check of its address, which the constants decide. -/
theorem ControlWrite.follows {w : Word → Instr} (h : ControlWrite a w) (hin : InRegion .control a.toNat) (d : Word) :
    Follows true a s (hostCheck true a d s) (exec (w d) s) := by
  rw [hostCheck_write_control a d s hin]
  cases h with
  | ctrl => exact wrCtrl_follows s d
  | mode => simpa using wrMode_follows s d
  | preflight => simpa using wrPreflight_follows s d
  | events => exact follows_write s _
  | irqEn => exact follows_write s _
  | readOnly _ _ ha he =>
    rw [if_pos ha, he]
    exact raiseBusError_eq_afterBusError .readOnly a s

theorem control_write_follows (h : InRegion .control a.toNat) (d : Word) :
    Follows true a s (hostCheck true a d s) (exec (decodeHost (writeT a) d) s) := by
  obtain ⟨r, hr, rfl, -, hdec⟩ := decodeHost_control h d
  rw [hdec]
  exact (controlRows_write hr).follows s h d

/-- A write of a window raises READ_ONLY, by the window's row (41_host_interface.md R231). -/
theorem window_write_follows (h : InRegion .img a.toNat ∨ InRegion .traw a.toNat ∨ InRegion .tfield a.toNat)
    (d : Word) : Follows true a s (hostCheck true a d s) (exec (decodeHost (writeT a) d) s) := by
  rw [hostCheck_write_window a d s h]
  rcases h with h | h | h
  · exact (decodeHost_img h d).2 ▸ raiseBusError_eq_afterBusError .readOnly a s
  · exact (decodeHost_traw h d).2 ▸ raiseBusError_eq_afterBusError .readOnly a s
  · exact decodeHost_tfield_write h d ▸ raiseBusError_eq_afterBusError .readOnly a s

theorem read_follows (a d : Word) :
    Follows false a s (hostCheck false a d s) (exec (decodeHost (readT a) d) s) := by
  have hin := region_inRegion a
  cases hreg : region a <;> rw [hreg] at hin
  case misaligned =>
    rw [hostCheck_misaligned a d s _ hin, (decodeHost_misaligned hin d).1]
    exact raiseBusError_eq_afterBusError .misaligned a s
  case unmapped =>
    rw [hostCheck_unmapped a d s _ hin, (decodeHost_unmapped hin d).1]
    exact raiseBusError_eq_afterBusError .unmapped a s
  case img => exact img_read_follows s hin d
  case traw => exact traw_read_follows s hin d
  case tfield => exact tfield_read_follows s hin d
  case control => exact control_read_follows s hin d

theorem write_follows (a d : Word) :
    Follows true a s (hostCheck true a d s) (exec (decodeHost (writeT a) d) s) := by
  have hin := region_inRegion a
  cases hreg : region a <;> rw [hreg] at hin
  case misaligned =>
    rw [hostCheck_misaligned a d s _ hin, (decodeHost_misaligned hin d).2]
    exact raiseBusError_eq_afterBusError .misaligned a s
  case unmapped =>
    rw [hostCheck_unmapped a d s _ hin, (decodeHost_unmapped hin d).2]
    exact raiseBusError_eq_afterBusError .unmapped a s
  case img => exact window_write_follows s (.inl hin) d
  case traw => exact window_write_follows s (.inr (.inl hin)) d
  case tfield => exact window_write_follows s (.inr (.inr hin)) d
  case control => exact control_write_follows s hin d

/-- Every host transaction is a read or a write of its address. -/
theorem transaction_follows (t : BitVec 17) (d : Word) :
    Follows (t.getLsbD 16) (t.extractLsb' 0 16) s (hostCheck (t.getLsbD 16) (t.extractLsb' 0 16) d s)
      (exec (decodeHost t d) s) := by
  rcases accessT_cases t with ⟨hrw, ht⟩ | ⟨hrw, ht⟩ <;> rw [hrw]
  · exact (congrArg (decodeHost · d) ht) ▸ read_follows s (t.extractLsb' 0 16) d
  · exact (congrArg (decodeHost · d) ht) ▸ write_follows s (t.extractLsb' 0 16) d

end

/-- Settles O25: region by region of its address a transaction comes to what its check says, by the statements on the
single rows (O19, O20, O26 to O28) and the one bus error of the rows that always raise. -/
theorem checkOrder : Obligations.CheckOrder := fun s t d => transaction_follows s t d

/-! ## Nothing stops from the invariant -/

/-- An image payload goes on where its line is one of the image's: the rows of the image lie in IMG (10_state.md R70;
log 15). -/
theorem storeImage_goes_on {pay rest : List Byte} {s : State} (hp : s.pend = .img) (hl : s.line.toNat < 60)
    (hy : pay.length = 160) : ∃ u, storePayload pay { s with stream := rest } = .next u := by
  by_cases hm : s.mode = .m80x60x16
  · rw [storeImage_direct pay rest s hp hm]
    exact ⟨_, storeDirect_next pay { s with stream := rest } hy hm hl⟩
  · rw [storeImage_scratch pay rest s hp hm]
    rcases storeScratch_cases pay rest s hy with ⟨-, he⟩ | ⟨-, he⟩ | ⟨-, outside, -⟩
    · exact ⟨_, he⟩
    · exact ⟨_, he⟩
    · exact absurd (row_fits s.mode (band_lt_height s.mode hl)) (Nat.not_le_of_lt outside)

/-- Of the payloads only the image's can stop. -/
theorem storePayload_goes_on {pay rest : List Byte} {s : State} (hl : s.pend = .img → s.line.toNat < 60)
    (hy : pay.length = 160) : ∃ u, storePayload pay { s with stream := rest } = .next u := by
  obtain ⟨-, hstore, hdrop⟩ := storePayload_pend pay { s with stream := rest }
  obtain ⟨p, hp⟩ : ∃ p, s.pend = p := ⟨_, rfl⟩
  cases p with
  | none => exact ⟨{ s with stream := rest }, by rw [storePayload, hp]⟩
  | img => exact storeImage_goes_on hp (hl hp) hy
  | telStore => exact ⟨_, (hstore hp).trans (storeTelemetry_next pay _ hy)⟩
  | telDrop => exact ⟨_, hdrop hp⟩

theorem stepPayload_goes_on {s : State} (h : Inv s) (hs : s.st = .streaming) (hp : s.pend ≠ .none) :
    ∃ t, execStepPayload s = .next t := by
  rcases Nat.lt_or_ge s.stream.length 160 with short | enough
  · exact ⟨s, stepPayload_short short⟩
  · have taken : (s.stream.take 160).length = 160 := List.length_take_of_le enough
    obtain ⟨u, hu⟩ := storePayload_goes_on (rest := s.stream.drop 160) (fun hi => (h.pendImg hi).1) taken
    exact ⟨_, stepPayload_next _ _ s u hs hp taken (List.take_append_drop 160 s.stream).symm hu⟩

/-- Four bytes of the stream are a header, whatever they are (30_encoding.md R141). -/
theorem stream_header {s : State} (h : 4 ≤ s.stream.length) :
    s.stream = headerBytes (headerOf (s.stream.take 4)) ++ s.stream.drop 4 :=
  streamRead_header (streamRead_enough 4 s h)

theorem headerStep_goes_on (s : State) : ∃ t, headerStep s = .next t := by
  rcases Nat.lt_or_ge s.stream.length 4 with short | enough
  · exact ⟨s, headerStep_short short⟩
  · exact ⟨_, headerStep_next _ _ s (stream_header enough)⟩

theorem stepProbe_goes_on {s : State} (hs : s.st = .resyncing) (hp : s.probe.toNat < 120) :
    ∃ t, execStepProbe s = .next t := by
  rcases Nat.lt_or_ge s.stream.length 4 with short | enough
  · exact ⟨s, stepProbe_short short⟩
  · exact ⟨_, stepProbe_next _ _ s hs hp (stream_header enough)⟩

theorem stepPreflight_goes_on {s : State} (hs : s.st = .preflight) : ∃ t, exec .stepPreflight s = .next t := by
  cases hb : booted s with
  | false => exact ⟨_, notBooted s hs hb⟩
  | true =>
    obtain ⟨t, ht, -⟩ := preflightBooted s hs hb
    exact ⟨t, ht⟩

theorem stepSync_goes_on (s : State) : ∃ t, exec .stepSync s = .next t := by
  rw [exec, execStepSync]
  split
  · exact ⟨_, rfl⟩
  · exact ⟨s, rfl⟩

/-- The enabled step goes on, row by row of the table of 42_synchronizer.md R260. -/
theorem engineStep_goes_on {s : State} {i : Instr} (h : Inv s) (hi : decodeStep (selectVector s) = .ok i) :
    ∃ t, exec i s = .next t := by
  rcases (enabledStep s i).mp hi with ⟨hs, rfl⟩ | ⟨-, -, rfl⟩ | ⟨hs, hd, rfl⟩ | ⟨hs, hp, rfl⟩ | ⟨hs, hp, rfl⟩ |
    ⟨hs, hp, rfl⟩ | ⟨hs, hp, rfl⟩
  · exact stepPreflight_goes_on hs
  · exact stepSync_goes_on s
  · obtain ⟨t, ht⟩ := headerStep_goes_on s
    exact ⟨t, (if_pos ⟨hs, hd⟩).trans ht⟩
  · obtain ⟨t, ht⟩ := headerStep_goes_on s
    exact ⟨t, (if_pos ⟨hs, hp⟩).trans ht⟩
  · exact stepPayload_goes_on h hs hp
  · have below : s.probe.toNat ≠ 120 := mt (probe_toNat_eq_iff s.probe).mp hp
    exact stepProbe_goes_on hs (Nat.lt_of_le_of_ne h.probeLe below)
  · exact ⟨_, exhaustStep s hs hp⟩

/-- A header row goes on in every class: it takes its header or waits (30_encoding.md R147). -/
theorem headerRow_goes_on (k : HeaderClass) (h : BitVec 32) (s : State) : ∃ t, exec (headerRow k h) s = .next t := by
  have takesOrWaits {p : Prop} [Decidable p] (u : State) :
      ∃ t, (if p then .next u else waiting s) = Host.Outcome.next t := by
    split
    · exact ⟨u, rfl⟩
    · exact ⟨s, rfl⟩
  cases k <;> exact takesOrWaits _

theorem step_of_no_fetch {x : Input} {rest : List Input} {s : State} (hx : s.inputs = x :: rest)
    (hf : fetch x s = none) : step s = .next (environment x { s with inputs := rest }) := by
  simp only [step, hx, hf]

/-- What a move fetches goes on: a host's transaction by `transaction_follows`, the engine's step and the header row by
their own lemmas. -/
theorem fetched_goes_on {x : Input} {s : State} {rest : List Input} {i : Instr} (h : Inv s) (hf : fetch x s = some i) :
    ∃ t, exec i { s with inputs := rest } = .next t := by
  cases x with
  | host t d =>
    obtain rfl := Option.some.inj ((fetch_eq_some rfl (decode_hostBytes t d)).symm.trans hf)
    exact (transaction_follows { s with inputs := rest } t d).goes_on
  | engine =>
    have hd : (decodeStep (selectVector s)).toOption = some i := by
      rw [← decode_selectVector]
      exact hf
    cases hk : decodeStep (selectVector s) with
    | error e => rw [hk] at hd; cases hd
    | ok j =>
      rw [hk] at hd
      obtain rfl := Option.some.inj hd
      exact engineStep_goes_on (s := { s with inputs := rest }) { h with } hk
  | header =>
    rcases Nat.lt_or_ge s.stream.length 4 with short | enough
    · have nothing : fetchBytes .header s = none := if_neg (Nat.not_le_of_lt short)
      rw [fetch, nothing] at hf
      cases hf
    · have row := fetch_eq_some (fetchBytes_header (stream_header enough)) (decode_headerBytes _ _)
      obtain rfl := Option.some.inj (row.symm.trans hf)
      exact headerRow_goes_on _ _ _
  | stream _ | pulseDone | reset => cases hf

/-- Settles O5: a step runs what its move fetches, which goes on, or lets the environment act, which never stops. -/
theorem invStepGoesOn : Obligations.InvStepGoesOn := by
  intro s h
  cases hx : s.inputs with
  | nil => exact ⟨s, by rw [step, hx]⟩
  | cons x rest =>
    cases hf : fetch x s with
    | none => exact ⟨_, step_of_no_fetch hx hf⟩
    | some i =>
      obtain ⟨t, ht⟩ := fetched_goes_on (rest := rest) h hf
      exact ⟨t, (step_of_fetch hx hf).trans ht⟩

/-! ## irq -/

/-- Two words have a common bit exactly where their conjunction is not zero. -/
theorem and_ne_zero_iff {w : Nat} (v u : BitVec w) :
    v &&& u ≠ 0 ↔ ∃ k, k < w ∧ v.getLsbD k = true ∧ u.getLsbD k = true := by
  refine ⟨fun h => ?_, fun ⟨k, _, hv, hu⟩ h => ?_⟩
  · by_contra hn
    refine h (BitVec.eq_of_getLsbD_eq fun k hk => ?_)
    have clear : ¬(v.getLsbD k = true ∧ u.getLsbD k = true) := fun hb => hn ⟨k, hk, hb⟩
    simpa using clear
  · have bit : (v &&& u).getLsbD k = true := by rw [BitVec.getLsbD_and, hv, hu]; rfl
    rw [h] at bit
    simp at bit

/-- Settles O22: no event has happened at reset, and irq is on where EVENTS and IRQ_EN have a common bit. -/
theorem interruptLevel : Obligations.InterruptLevel :=
  ⟨rfl, fun s => decide_eq_true_iff.trans (and_ne_zero_iff s.events s.irqEn)⟩

end Sys2Proof.Machine
end

section
/-! SUPPORT. The reset state as the host reads it (70_reset_and_hazards.md R441), and the moves of the environment that
run no instruction (R440; 20_memory.md R108; 42_synchronizer.md R260, R265). -/

namespace Sys2Proof.Machine

/-! ## Reads at reset -/

theorem total_reset : total State.reset.mode = 9600 := rfl

/-- The image of the reset mode fills the IMG window, so R221's range check passes at its last word too. -/
theorem exec_rdImg_reset {a : Word} (heven : a.toNat % 2 = 0) (hlo : 0x4000 ≤ a.toNat) (hhi : a.toNat ≤ 0x657E) :
    exec (.rdImg a) State.reset = .next (afterAnswer (ramWord .img State.reset (a.toNat - 0x4000)) State.reset) := by
  obtain ⟨-, -, -, inFrame⟩ := imgRead State.reset a 0 heven hlo hhi
  have fits : a.toNat - 0x4000 + 1 < total State.reset.mode := by rw [total_reset]; omega
  exact inFrame rfl fits

/-- Settles O1: each register read is an answer whose word is a computation on the reset values, and the IMG window is
`exec_rdImg_reset`. -/
theorem resetReads : Obligations.ResetReads :=
  ⟨answer_eq (statusWord State.reset) _, answer_eq _ _, rfl, answer_eq _ _, answer_eq _ _, answer_eq _ _,
    answer_eq _ _, answer_eq _ _, answer_eq _ _, answer_eq _ _, answer_eq _ _, rfl, rfl, rfl, rfl, rfl,
    fun _ heven hlo hhi => exec_rdImg_reset heven hlo hhi⟩

/-! ## Moves that run no instruction -/

/-- Where a pulse is asked for, the report is latched (42_synchronizer.md R265; log 8). -/
theorem reportPulse_requested {s : State} (hs : s.st = .syncing) (hd : s.syncDone = false) :
    reportPulse s = { s with pulseDone := true } := by
  simp [reportPulse, hs, hd]

/-- Where no pulse is asked for, the report is ignored (log 8). -/
theorem reportPulse_ignored {s : State} (h : s.st ≠ .syncing ∨ s.syncDone = true) : reportPulse s = s := by
  have unasked : (decide (s.st = .syncing) && !s.syncDone) = false := by
    rcases h with hs | hd
    · rw [decide_eq_false hs, Bool.false_and]
    · rw [hd, Bool.not_true, Bool.and_false]
  rw [reportPulse, unasked, Bool.or_false]

/-- In IDLE the select vector enables no step (42_synchronizer.md R260). -/
theorem fetch_engine_idle {s : State} (hs : s.st = .idle) : fetch .engine s = none := by
  have refused : decodeStep (selectVector s) = .error .noStepEnabled := by rw [decodeStep_selectVector, hs, stepOf]
  calc fetch .engine s = (decode .engine [(selectVector s).setWidth 8]).toOption := rfl
    _ = (decodeStep (selectVector s)).toOption := by rw [decode_selectVector]
    _ = none := by rw [refused, Except.toOption]

theorem step_no_inputs {s : State} (hx : s.inputs = []) : step s = .next s := by rw [step, hx]

/-- Settles O7: none of these moves fetches an instruction, so each step is its `environment`, by the cases of the
pulse report. -/
theorem environmentMoves : Obligations.EnvironmentMoves := by
  intro s rest
  refine ⟨fun hx => step_of_no_fetch hx rfl, fun bytes hx => step_of_no_fetch hx rfl, fun hx hs hd => ?_,
    fun hx h => ?_, fun hx hs => step_of_no_fetch hx (fetch_engine_idle hs), step_no_inputs⟩
  · have latched : reportPulse { s with inputs := rest } = { s with inputs := rest, pulseDone := true } :=
      reportPulse_requested hs hd
    exact (step_of_no_fetch hx rfl).trans (congrArg _ latched)
  · have ignored : reportPulse { s with inputs := rest } = { s with inputs := rest } := reportPulse_ignored h
    exact (step_of_no_fetch hx rfl).trans (congrArg _ ignored)

end Sys2Proof.Machine
end
